-- ==== Sys2Proof/Word.lean ====
section
/-! DEFINITION. The word types of CORE's ports (spec/10_state.md rules R26 and R27; bit 0 is the
least-significant bit, spec/00_scope.md rule R8). -/

namespace Sys2Proof

/-- A frame byte, a module number, a message type or a group index: 8 bits (R26, R7). -/
abbrev Byte := BitVec 8

/-- A cell voltage, cell index, pack voltage, temperature pattern or CRC value: 16 bits (R7). -/
abbrev Half := BitVec 16

/-- An identifier or a balancing mask: 32 bits (R7). -/
abbrev Word := BitVec 32

/-- The value on port `op`: 5 bits (R60). -/
abbrev OpCode := BitVec 5

/-- The value on port `kind`: 4 bits (R70). -/
abbrev KindCode := BitVec 4

end Sys2Proof
end

