-- ==== Sys2Proof/Syntax.lean ====
section
/-! DEFINITION. The operations of CORE, one constructor per row of spec/opcode_table.json
(spec/30_encoding.md R61), and the line of assembler text that spells one evaluation (R71, R72). -/

namespace Sys2Proof

/-- All 32 values of `op` (R61). No operation has a register, an immediate or a mode field (R60):
every operand comes from a named input port (R65), so no constructor has a field. -/
inductive Instr where
  | nop
  | crcGen
  | crcCheck
  | encCellv
  | decCellv
  | encU16
  | decU16
  | encTemp
  | decTemp
  | makeId
  | decMod
  | decType
  | reserved0C
  | reserved0D
  | reserved0E
  | reserved0F
  | bldBal
  | bldCellv
  | bldTemp
  | bldPack1
  | bldPack2
  | bldPack3
  | reserved16
  | reserved17
  | decodeFrame
  | reserved19
  | reserved1A
  | reserved1B
  | reserved1C
  | reserved1D
  | reserved1E
  | reserved1F
  deriving DecidableEq, Repr

/-- The pseudo-operations an assembler accepts (R72). -/
inductive Pseudo where
  | encCidx
  | encPackv
  | decCidx
  | decPackv
  | isValid
  | crc16
  deriving DecidableEq, Repr

/-- What may stand in the mnemonic's place of a line: a mnemonic, the bare hexadecimal code of a
reserved op code (spec/95_test_vectors.md section 2.6), or a pseudo-operation. -/
inductive OpName where
  | core (i : Instr)
  | pseudo (p : Pseudo)
  deriving DecidableEq, Repr

/-- The input ports a line gives as a number (R71). -/
inductive NumPort where
  | mod
  | typ
  | grp
  | mask
  | idin
  | u0
  | u1
  | u2
  | s0
  | s1
  | s2
  | s3
  | s4
  | s5
  deriving DecidableEq, Repr

/-- One `port=value` of a line: a number, or the bytes of `fin`, byte 0 first (R71). The values are the
host's own integers; whether the port can carry them is WellFormed's question. -/
inductive Assign where
  | num (p : NumPort) (v : Int)
  | fin (bytes : List Nat)
  deriving DecidableEq, Repr

/-- An evaluation written as one line, `MNEMONIC [port=value {, port=value}]` (R71). -/
structure Line where
  name : OpName
  assigns : List Assign
  deriving DecidableEq, Repr

/-- Why a line or a byte sequence is turned away, by name. -/
inductive LineReject where
  /-- A number larger than its port can carry (spec/93_implementation_defined.md I1: refuse). -/
  | valueTooWide (p : NumPort)
  /-- A negative number on a port other than `s` (R71), or below the 16-bit range. -/
  | negativeValue (p : NumPort)
  /-- `fin` not given exactly eight bytes (R71, R66). -/
  | frameLength
  /-- A value of `fin` above 0xFF (I1). -/
  | byteTooWide
  /-- A port given twice (DESIGN CHOICE, notes/assumptions/9.md). -/
  | portTwice
  /-- The word in the mnemonic's place is none of R61's, R72's or the reserved codes. -/
  | unknownName
  /-- The word before `=` is no input port (R71). -/
  | unknownPort
  /-- The text after `=` is no number of R71. -/
  | badNumber
  deriving DecidableEq, Repr

end Sys2Proof
end

