-- ==== Sys2Proof/Decode.lean ====
section
/-! DEFINITION. Decoding of the operation port and its encoder (spec/30_encoding.md R60 to R64,
spec/opcode_table.json). Decoding a 5-bit value is total and refuses nothing: each of the 32 values is a
row of the table. A byte that carries a value wider than the port is refused by name. -/

namespace Sys2Proof

/-- The op-code map (R61): the operation each of the 32 values of `op` selects. -/
def decodeOp (op : OpCode) : Instr :=
  match op.toFin with
  | 0x00 => .nop
  | 0x01 => .crcGen
  | 0x02 => .crcCheck
  | 0x03 => .encCellv
  | 0x04 => .decCellv
  | 0x05 => .encU16
  | 0x06 => .decU16
  | 0x07 => .encTemp
  | 0x08 => .decTemp
  | 0x09 => .makeId
  | 0x0A => .decMod
  | 0x0B => .decType
  | 0x0C => .reserved0C
  | 0x0D => .reserved0D
  | 0x0E => .reserved0E
  | 0x0F => .reserved0F
  | 0x10 => .bldBal
  | 0x11 => .bldCellv
  | 0x12 => .bldTemp
  | 0x13 => .bldPack1
  | 0x14 => .bldPack2
  | 0x15 => .bldPack3
  | 0x16 => .reserved16
  | 0x17 => .reserved17
  | 0x18 => .decodeFrame
  | 0x19 => .reserved19
  | 0x1A => .reserved1A
  | 0x1B => .reserved1B
  | 0x1C => .reserved1C
  | 0x1D => .reserved1D
  | 0x1E => .reserved1E
  | 0x1F => .reserved1F
  | ⟨n + 32, h⟩ => absurd h (Nat.not_lt.mpr (Nat.le_add_left 32 n))

/-- The op code of each operation, written from the table's "encoding" column (bits 4 down to 0). -/
def encodeOp : Instr → OpCode
  | .nop => 0b00000#5
  | .crcGen => 0b00001#5
  | .crcCheck => 0b00010#5
  | .encCellv => 0b00011#5
  | .decCellv => 0b00100#5
  | .encU16 => 0b00101#5
  | .decU16 => 0b00110#5
  | .encTemp => 0b00111#5
  | .decTemp => 0b01000#5
  | .makeId => 0b01001#5
  | .decMod => 0b01010#5
  | .decType => 0b01011#5
  | .reserved0C => 0b01100#5
  | .reserved0D => 0b01101#5
  | .reserved0E => 0b01110#5
  | .reserved0F => 0b01111#5
  | .bldBal => 0b10000#5
  | .bldCellv => 0b10001#5
  | .bldTemp => 0b10010#5
  | .bldPack1 => 0b10011#5
  | .bldPack2 => 0b10100#5
  | .bldPack3 => 0b10101#5
  | .reserved16 => 0b10110#5
  | .reserved17 => 0b10111#5
  | .decodeFrame => 0b11000#5
  | .reserved19 => 0b11001#5
  | .reserved1A => 0b11010#5
  | .reserved1B => 0b11011#5
  | .reserved1C => 0b11100#5
  | .reserved1D => 0b11101#5
  | .reserved1E => 0b11110#5
  | .reserved1F => 0b11111#5

/-- The 13 reserved op codes (R63). -/
def Instr.reserved : Instr → Bool
  | .reserved0C | .reserved0D | .reserved0E | .reserved0F | .reserved16 | .reserved17
  | .reserved19 | .reserved1A | .reserved1B | .reserved1C | .reserved1D | .reserved1E
  | .reserved1F => true
  | .nop | .crcGen | .crcCheck | .encCellv | .decCellv | .encU16 | .decU16 | .encTemp | .decTemp
  | .makeId | .decMod | .decType | .bldBal | .bldCellv | .bldTemp | .bldPack1 | .bldPack2
  | .bldPack3 | .decodeFrame => false

/-- Why a byte sequence gives no operation. -/
inductive DecodeReject where
  /-- No byte is left. -/
  | noByte
  /-- The byte's bits 7:5 are not zero, so its value is wider than the 5-bit port (R60). -/
  | widerThanPort (b : Byte)
  deriving DecidableEq, Repr

/-- One operation from a sequence of bytes, with the bytes after it. Every operation has the same
length, one 5-bit word (R60); carried in a byte it stands in bits 4:0, and bits 7:5 are zero
(DESIGN CHOICE, notes/assumptions/4.md: the spec has no byte carrier for `op`). -/
def decode : List Byte → Except DecodeReject (Instr × List Byte)
  | [] => .error .noByte
  | b :: rest =>
    if b.extractLsb' 5 3 = 0#3 then .ok (decodeOp (b.extractLsb' 0 5), rest)
    else .error (.widerThanPort b)

/-- The byte that carries an operation. -/
def encode (i : Instr) : List Byte := [(encodeOp i).setWidth 8]

/-- The operation the decoder reads from a word of spec/opcode_table.json. -/
def decodeTableWord (_nbits w : Nat) : Option Instr :=
  if w < 256 then
    match decode [BitVec.ofNat 8 w] with
    | .ok (i, _) => some i
    | .error _ => none
  else none

end Sys2Proof
end

