-- ==== Sys2Proof/Machine/Ports.lean ====
section
/-! DEFINITION. What CORE's ports carry: the 8-byte frame with its data bytes and trailer
(spec/30_encoding.md R66, spec/20_memory.md R41 to R43), the input ports (spec/10_state.md R26) and
the output ports (R27). CORE has no memory: these buffers stand where a processor has one (R30, R40). -/

namespace Sys2Proof.Machine

/-- The six data bytes of a frame, frame bytes 0 to 5 (R66). -/
structure Payload where
  p0 : Byte
  p1 : Byte
  p2 : Byte
  p3 : Byte
  p4 : Byte
  p5 : Byte
  deriving DecidableEq, Repr, Inhabited

/-- The data bytes in increasing index order, the order the CRC engine takes them in (R44). -/
def Payload.bytes (p : Payload) : List Byte := [p.p0, p.p1, p.p2, p.p3, p.p4, p.p5]

/-- The eight frame bytes: `b0` is frame byte 0 (R41). -/
structure Frame where
  b0 : Byte
  b1 : Byte
  b2 : Byte
  b3 : Byte
  b4 : Byte
  b5 : Byte
  b6 : Byte
  b7 : Byte
  deriving DecidableEq, Repr, Inhabited

/-- The frame port with every byte 0 (R10: an output that no rule drives is 0). -/
def Frame.zero : Frame := ⟨0, 0, 0, 0, 0, 0, 0, 0⟩

/-- Frame bytes 0 to 5 (R66). -/
def Frame.payload (f : Frame) : Payload := ⟨f.b0, f.b1, f.b2, f.b3, f.b4, f.b5⟩

/-- The 16-bit trailer as stored, big-endian: `{byte 6, byte 7}` (R43, R66). -/
def Frame.trailer (f : Frame) : Half := f.b6 ++ f.b7

/-- Six data bytes followed by a CRC value, high byte first (R43: byte 6 = `crc[15:8]`,
byte 7 = `crc[7:0]`). -/
def Payload.withTrailer (p : Payload) (c : Half) : Frame :=
  ⟨p.p0, p.p1, p.p2, p.p3, p.p4, p.p5, c.extractLsb' 8 8, c.extractLsb' 0 8⟩

/-- Frame bytes from a list of eight, byte 0 first; none for any other length (R66: "payload length
is always exactly 8"). -/
def Frame.ofList : List Byte → Option Frame
  | [b0, b1, b2, b3, b4, b5, b6, b7] => some ⟨b0, b1, b2, b3, b4, b5, b6, b7⟩
  | _ => none

/-- The eight bytes, byte 0 first. -/
def Frame.bytes (f : Frame) : List Byte := [f.b0, f.b1, f.b2, f.b3, f.b4, f.b5, f.b6, f.b7]

/-- The flat 64-bit form: frame byte i in bits `63 - 8i` down to `56 - 8i` (R42). -/
def Frame.flat (f : Frame) : BitVec 64 :=
  f.b0 ++ f.b1 ++ f.b2 ++ f.b3 ++ f.b4 ++ f.b5 ++ f.b6 ++ f.b7

/-- The frame a flat 64-bit bus carries (R42). -/
def Frame.ofFlat (w : BitVec 64) : Frame :=
  ⟨w.extractLsb' 56 8, w.extractLsb' 48 8, w.extractLsb' 40 8, w.extractLsb' 32 8,
   w.extractLsb' 24 8, w.extractLsb' 16 8, w.extractLsb' 8 8, w.extractLsb' 0 8⟩

/-- A frame of the wire: its identifier and its eight bytes (R66, R33 "Frame"). -/
structure Message where
  identifier : Word
  frame : Frame
  deriving DecidableEq, Repr, Inhabited

/-- The input ports but `op`, which `State.op` holds (R26). -/
structure Inputs where
  /-- `fin[0..7]`, frame bytes. -/
  fin : Frame
  /-- `idin`, unsigned identifier. -/
  idin : Word
  /-- `mod`, unsigned module number. -/
  mod : Byte
  /-- `typ`, unsigned message type. -/
  typ : Byte
  /-- `grp`, unsigned group index. -/
  grp : Byte
  /-- `mask`, unsigned balancing mask. -/
  mask : Word
  /-- `u[0]`, unsigned value. -/
  u0 : Half
  /-- `u[1]`, unsigned value. -/
  u1 : Half
  /-- `u[2]`, unsigned value. -/
  u2 : Half
  /-- `s[0]`, two's-complement temperature in °C (R11). -/
  s0 : Half
  /-- `s[1]`, two's-complement temperature. -/
  s1 : Half
  /-- `s[2]`, two's-complement temperature. -/
  s2 : Half
  /-- `s[3]`, two's-complement temperature. -/
  s3 : Half
  /-- `s[4]`, two's-complement temperature. -/
  s4 : Half
  /-- `s[5]`, two's-complement temperature. -/
  s5 : Half
  deriving DecidableEq, Repr, Inhabited

/-- Every input port 0: the start state of a host program (spec/95_test_vectors.md section 3), and
what a port not written in an evaluation's line holds (R71). -/
def Inputs.zero : Inputs :=
  { fin := Frame.zero, idin := 0, mod := 0, typ := 0, grp := 0, mask := 0, u0 := 0, u1 := 0, u2 := 0,
    s0 := 0, s1 := 0, s2 := 0, s3 := 0, s4 := 0, s5 := 0 }

/-- The output ports (R27). A 1-bit port is a Bool, `true` for 1. -/
structure Outputs where
  /-- `fout[0..7]`, frame bytes. -/
  fout : Frame
  /-- `idout`, unsigned identifier. -/
  idout : Word
  /-- `crc`, unsigned CRC value. -/
  crc : Half
  /-- `ok`, CRC-valid indication. -/
  ok : Bool
  /-- `kind`, kind code (R70). -/
  kind : KindCode
  /-- `modout`, unsigned module number. -/
  modout : Byte
  /-- `typout`, unsigned message type. -/
  typout : Byte
  /-- `grpout`, unsigned group index. -/
  grpout : Byte
  /-- `v[0]`, a 16-bit pattern: unsigned or two's complement as the rule that drives it says (R11). -/
  v0 : Half
  /-- `v[1]`. -/
  v1 : Half
  /-- `v[2]`. -/
  v2 : Half
  /-- `v[3]`. -/
  v3 : Half
  /-- `v[4]`. -/
  v4 : Half
  /-- `v[5]`. -/
  v5 : Half
  /-- `maskout`, unsigned balancing mask. -/
  maskout : Word
  /-- `bad_op`, reserved-op indication. -/
  badOp : Bool
  deriving DecidableEq, Repr, Inhabited

/-- `Out <- 0`: every output port driven to zero (R10). -/
def Outputs.zero : Outputs :=
  { fout := Frame.zero, idout := 0, crc := 0, ok := false, kind := 0, modout := 0, typout := 0,
    grpout := 0, v0 := 0, v1 := 0, v2 := 0, v3 := 0, v4 := 0, v5 := 0, maskout := 0, badOp := false }

/-- One evaluation as the host presents it: the value of `op` and of every other input port (R28, R71). -/
structure Evaluation where
  op : OpCode
  inp : Inputs
  deriving DecidableEq, Repr, Inhabited

end Sys2Proof.Machine
end

