-- ==== Sys2Proof/Machine/Operands.lean ====
section
/-! DEFINITION. How an operand is read from its port (spec/00_scope.md R9, R11; spec/30_encoding.md R65):
bytes of a 16- or 32-bit value, the two's-complement reading, and the clamp. -/

namespace Sys2Proof.Machine

/-- `x[7:0]` of a 16-bit value (R8). -/
def loByte (x : Half) : Byte := x.extractLsb' 0 8

/-- `x[15:8]` of a 16-bit value (R8). -/
def hiByte (x : Half) : Byte := x.extractLsb' 8 8

/-- `signed16(v)`: a 16-bit pattern as a two's-complement integer (R9, R11). -/
def signed16 (v : Half) : Int := v.toInt

/-- `clamp(x, lo, hi)` (R9). -/
def clamp (x lo hi : Int) : Int := if x < lo then lo else if hi < x then hi else x

/-- `mask[31:24]`, `mask[23:16]`, `mask[15:8]` and `mask[7:0]` of a 32-bit value, in frame order (R43). -/
def wordBytes (m : Word) : Byte × Byte × Byte × Byte :=
  (m.extractLsb' 24 8, m.extractLsb' 16 8, m.extractLsb' 8 8, m.extractLsb' 0 8)

/-- `{a, b, c, d}`: four bytes as a 32-bit value, `a` in bits 31:24 (R43). -/
def wordOfBytes (a b c d : Byte) : Word := a ++ b ++ c ++ d

end Sys2Proof.Machine
end

