-- ==== Sys2Proof/Config.lean ====
section
/-! DEFINITION. What an implementation of CORE fixes (spec/00_scope.md R7), and the values the spec
leaves open. A constant here without a body is a free value: no proof can see what it is. -/

namespace Sys2Proof

/-- The two protocol variants (spec/00_scope.md R3, spec/10_state.md R24). -/
inductive Variant where
  /-- SMALL: "no offset and only 8 cell-voltage groups". -/
  | small
  /-- EXT: module offset +1, extended cell-group addressing. -/
  | ext
  deriving DecidableEq, Repr, Inhabited

/-- The one bit of VARIANT: 0 selects SMALL and 1 selects EXT (R24). -/
def Variant.bit : Variant → BitVec 1
  | .small => 0
  | .ext => 1

/-- VARIANT of the block at hand. OPEN (R24, spec/92_eei_decisions.md D5): "do not silently pick one".
It has no body, so nothing can be proved of which one it is; `State.reset` starts with it, and every
statement holds for both variants (notes/assumptions/1.md). -/
opaque Config.variant : Variant

/-- What the outputs of a clocked CORE show while no rule gives them a value: an input changed during
an evaluation, or LATENCY not yet passed (spec/93_implementation_defined.md I5 and I6, "any value";
spec/70_reset_and_hazards.md R265). A free value: it has no body (notes/assumptions/8.md). -/
opaque Config.unsettledOut : Nat → Machine.Outputs

end Sys2Proof
end

