-- ==== Sys2Proof/Machine/State.lean ====
section
/-! DEFINITION. The state of the model: CORE holds no architectural state (spec/10_state.md R20), so what
stands here is what one evaluation reads and drives: VARIANT (R24), the input ports (R26) and the output
ports (R27) as the last completed evaluation left them. -/

namespace Sys2Proof.Machine

/-- Everything the spec gives the machine, as plain data. -/
structure State where
  /-- VARIANT: static, written by no operation (R24). -/
  variant : Variant
  /-- The input port `op` (R26, R60). The host writes it; nothing in CORE does (R22). -/
  op : OpCode
  /-- The other input ports (R26). The host writes them between evaluations. -/
  inp : Inputs
  /-- The output ports (R27), as the last completed evaluation drove them; 0 after reset (R262). -/
  out : Outputs
  deriving DecidableEq, Repr

/-- Why a run faults. CORE "raises no synchronous exception ... and never stops"
(spec/60_exceptions.md R240), so there is no reason and this type has no constructor. -/
inductive Fault where
  deriving DecidableEq, Repr

/-- Why a run is refused. -/
inductive Refusal where
  /-- Raised by exec for an operation without a meaning; no arm uses it. Safe. -/
  | notModelled (mnemonic : String)
  /-- Raised by the host side, before any evaluation, for a line that CORE's ports cannot carry or that
  is no line of R71 (spec/93_implementation_defined.md I1: "A model with wider host-side integers
  refuses it rather than picking a wrap"). Safe. No operation raises it. -/
  | lineRejected (r : LineReject)
  deriving DecidableEq, Repr

/-- A block built with a given VARIANT, right after reset: every input port 0 (the start state of
spec/95_test_vectors.md section 3) and every output 0 (R262). -/
def State.resetWith (v : Variant) : State :=
  { variant := v, op := 0, inp := Inputs.zero, out := Outputs.zero }

/-- The machine right after reset. VARIANT is the block's own, which the spec leaves OPEN (R24, R263). -/
def State.reset : State := State.resetWith Config.variant

end Sys2Proof.Machine
end

