-- ==== Sys2Proof/Machine/Ops.lean ====
section
/-! DEFINITION. The shared operations over the ports. CORE has no register, no memory and no program
counter (spec/10_state.md R21, R22, R30), and it takes no exception and returns from none
(spec/60_exceptions.md R240, R245): every operation does one thing, it drives all the output ports. -/

namespace Sys2Proof.Machine

/-- The end of every evaluation: all output ports take the values of this evaluation (R27, R28), and
nothing else changes (R20). `o` is built from `Outputs.zero`, so a port the rule does not name is 0 (R10). -/
def State.drive (s : State) (o : Outputs) : Host.Outcome State Fault Refusal :=
  .next { s with out := o }

/-- The operation of the current evaluation is the value of port `op` (R50, R60). CORE fetches nothing. -/
def State.fetch (s : State) : OpCode := s.op

/-- The evaluation that the input ports present. -/
def State.evaluation (s : State) : Evaluation := { op := s.op, inp := s.inp }

/-- The host presents one evaluation's inputs, all ports at once (R47, spec/92_eei_decisions.md D10). -/
def State.present (s : State) (e : Evaluation) : State := { s with op := e.op, inp := e.inp }

/-- The frame and identifier on the output ports (R33 "Frame"). -/
def State.message (s : State) : Message := { identifier := s.out.idout, frame := s.out.fout }

/-- The host puts a frame and its identifier on the input ports, under a given operation
(spec/70_reset_and_hazards.md R267: "the host copies it"). -/
def State.offer (s : State) (i : OpCode) (m : Message) : State :=
  { s with op := i, inp := { s.inp with idin := m.identifier, fin := m.frame } }

/-- Reset of a CORE that registers its outputs: every output 0; VARIANT is not changed (R260, R262,
R263). The input ports are the host's, which reset does not drive. -/
def State.afterReset (s : State) : State := { s with out := Outputs.zero }

end Sys2Proof.Machine
end

