-- ==== Sys2Proof/Machine/Codec.lean ====
section
/-! DEFINITION. The field codecs (spec/41_field_codecs.md): the codec functions of section 1 and the six
operations of section 2. -/

namespace Sys2Proof.Machine

/-- Cell-voltage encoder: byte A = `v[7:0]`, byte B = `zext_8(v[13:8])` (R120). -/
def encCV (v : Half) : Byte × Byte := (loByte v, (v.extractLsb' 8 6).setWidth 8)

/-- Cell-voltage decoder: `A + (B & 0x3F) * 256` (R121). -/
def decCV (a b : Byte) : Half := BitVec.ofNat 16 (a.toNat + (b &&& 0x3F#8).toNat * 256)

/-- Plain 16-bit encoder, big-endian (R122). -/
def encU16 (v : Half) : Byte × Byte := (hiByte v, loByte v)

/-- Plain 16-bit decoder, big-endian: `{A, B}` (R122). -/
def decU16 (a b : Byte) : Half := a ++ b

/-- Temperature encoder: an exact integer sum, then the clamp (R123). -/
def encT (s : Half) : Byte := BitVec.ofInt 8 (clamp (signed16 s + 40) 0 255)

/-- Temperature decoder: `(E - 40) mod 2^16` (R124). -/
def decT (e : Byte) : Half := BitVec.ofInt 16 ((e.toNat : Int) - 40)

/-- A two-byte codec result as an operation's result: byte A on `fout[0]`, byte B on `fout[1]`. -/
def twoBytesOut (ab : Byte × Byte) : Outputs :=
  { Outputs.zero with fout := { Frame.zero with b0 := ab.1, b1 := ab.2 } }

/-- ENC_CELLV (R125). -/
def execEncCellv (s : State) : Host.Outcome State Fault Refusal :=
  s.drive (twoBytesOut (encCV s.inp.u0))

/-- DEC_CELLV (R126). -/
def execDecCellv (s : State) : Host.Outcome State Fault Refusal :=
  s.drive { Outputs.zero with v0 := decCV s.inp.fin.b0 s.inp.fin.b1 }

/-- ENC_U16 (R127). -/
def execEncU16 (s : State) : Host.Outcome State Fault Refusal :=
  s.drive (twoBytesOut (encU16 s.inp.u0))

/-- DEC_U16 (R128). -/
def execDecU16 (s : State) : Host.Outcome State Fault Refusal :=
  s.drive { Outputs.zero with v0 := decU16 s.inp.fin.b0 s.inp.fin.b1 }

/-- ENC_TEMP (R129). -/
def execEncTemp (s : State) : Host.Outcome State Fault Refusal :=
  s.drive { Outputs.zero with fout := { Frame.zero with b0 := encT s.inp.s0 } }

/-- DEC_TEMP (R130). -/
def execDecTemp (s : State) : Host.Outcome State Fault Refusal :=
  s.drive { Outputs.zero with v0 := decT s.inp.fin.b0 }

end Sys2Proof.Machine
end

