-- ==== Sys2Proof/Machine/Crc.lean ====
section
/-! DEFINITION. The CRC engine (spec/40_crc.md): the CRC function and the operations CRC_GEN and
CRC_CHECK, with the `ok` computation CRC_CHECK and DECODE_FRAME share. -/

namespace Sys2Proof.Machine

/-- One bit step of the CRC register (R101). -/
def crcStep (c : Half) : Half :=
  if c.getLsbD 15 then (c <<< 1) ^^^ 0x1021#16 else c <<< 1

/-- `n` bit steps. -/
def crcSteps : Nat → Half → Half
  | 0, c => c
  | n + 1, c => crcSteps n (crcStep c)

/-- One byte enters at the top of the register and takes eight bit steps (R100, R44). -/
def crcByte (c : Half) (b : Byte) : Half :=
  crcSteps 8 (c ^^^ (b.setWidth 16 <<< 8))

/-- The register's initial value (R7, R100). -/
def crcInit : Half := 0xFFFF#16

/-- `crc16(b[0..n-1])`, for any number of bytes: no final XOR, no reflection, no augmentation
(R100, R102). -/
def crc16 (bs : List Byte) : Half := bs.foldl crcByte crcInit

/-- The CRC of six data bytes, the only length CORE uses (R103). -/
def Payload.crc (p : Payload) : Half := crc16 p.bytes

end Sys2Proof.Machine
end

