-- ==== Sys2Proof/Machine/Flags.lean ====
section
/-! DEFINITION. The two indications an evaluation drives, `ok` and `bad_op`. They are outputs of the
evaluation, not stored flags (spec/10_state.md R23, spec/60_exceptions.md R241). -/

namespace Sys2Proof.Machine

/-- `ok`: the trailer is the CRC of bytes 0 to 5 (spec/40_crc.md R105, spec/44_frame_decoder.md R201). -/
def Frame.crcOk (f : Frame) : Bool := f.payload.crc == f.trailer

/-- The outputs of a reserved op code: `bad_op` 1 and every other output 0 (spec/45_control.md R231). -/
def badOpOutputs : Outputs := { Outputs.zero with badOp := true }

end Sys2Proof.Machine
end

