-- ==== Sys2Proof/Machine/Ident.lean ====
section
/-! DEFINITION. The message-identifier codec (spec/42_identifier.md). -/

namespace Sys2Proof.Machine

/-- `makeId(m, t) = 0x6000 + m * 256 + t`, exact (R150). -/
def composeId (m t : Byte) : Word := BitVec.ofNat 32 (0x6000 + m.toNat * 256 + t.toNat)

/-- `decMod(i) = trunc_8((((i & 0xFF00) - 0x6000) mod 2^32) >> 8)` (R151). -/
def moduleOfId (i : Word) : Byte := (((i &&& 0xFF00#32) - 0x6000#32) >>> 8).setWidth 8

/-- `decTyp(i) = i & 0x00FF` (R152). -/
def typeOfId (i : Word) : Byte := (i &&& 0x00FF#32).setWidth 8

/-- MAKE_ID (R153). -/
def execMakeId (s : State) : Host.Outcome State Fault Refusal :=
  s.drive { Outputs.zero with idout := composeId s.inp.mod s.inp.typ }

/-- DEC_MOD (R154). No identifier is rejected. -/
def execDecMod (s : State) : Host.Outcome State Fault Refusal :=
  s.drive { Outputs.zero with modout := moduleOfId s.inp.idin }

/-- DEC_TYPE (R155). -/
def execDecType (s : State) : Host.Outcome State Fault Refusal :=
  s.drive { Outputs.zero with typout := typeOfId s.inp.idin }

end Sys2Proof.Machine
end

