-- ==== Sys2Proof/Machine/Builder.lean ====
section
/-! DEFINITION. The frame builders (spec/43_frame_builders.md). -/

namespace Sys2Proof.Machine

/-- The fixed identifier of pack data 1 (R177, spec/10_state.md R31). -/
def pack1Id : Word := 0x00008000#32

/-- The fixed identifier of pack data 2 (R178). -/
def pack2Id : Word := 0x00008010#32

/-- The fixed identifier of pack data 3 (R179). -/
def pack3Id : Word := 0x00008020#32

/-- `finish(id, p)`: the common end of every builder (R170). -/
def finish (id : Word) (p : Payload) : Outputs :=
  { Outputs.zero with idout := id, fout := p.withTrailer p.crc, crc := p.crc }

/-- `om(VARIANT, mod)`: the module number a per-module builder passes to the composer (R171). -/
def offsetModule : Variant → Byte → Byte
  | .small, m => m
  | .ext, m => BitVec.ofNat 8 (m.toNat + 1)

/-- `celltype(VARIANT, g)`, modulo 256 (R172). -/
def cellType : Variant → Byte → Byte
  | .small, g => BitVec.ofNat 8 (0x02 + g.toNat)
  | .ext, g => BitVec.ofNat 8 (0x02 + g.toNat % 12 + (g.toNat / 12) <<< 4)

/-- `temptype(g) = (0x0F - g) mod 256` (R173). -/
def tempType (g : Byte) : Byte := BitVec.ofInt 8 (0x0F - (g.toNat : Int))

/-- The message type of a balancing-state frame (R174). -/
def balType : Byte := 0x01#8

/-- Three two-byte fields in frame order, byte A of each at the lower index (spec/41_field_codecs.md
R132). -/
def threeFields (x y z : Byte × Byte) : Payload := ⟨x.1, x.2, y.1, y.2, z.1, z.2⟩

/-- BLD_BAL (R174). -/
def execBldBal (s : State) : Host.Outcome State Fault Refusal :=
  let (m3, m2, m1, m0) := wordBytes s.inp.mask
  s.drive (finish (composeId (offsetModule s.variant s.inp.mod) balType) ⟨0xFF, 0xFF, m3, m2, m1, m0⟩)

/-- BLD_CELLV (R175). -/
def execBldCellv (s : State) : Host.Outcome State Fault Refusal :=
  s.drive (finish
    (composeId (offsetModule s.variant s.inp.mod) (cellType s.variant s.inp.grp))
    (threeFields (encCV s.inp.u0) (encCV s.inp.u1) (encCV s.inp.u2)))

/-- BLD_TEMP (R176). -/
def execBldTemp (s : State) : Host.Outcome State Fault Refusal :=
  s.drive (finish
    (composeId (offsetModule s.variant s.inp.mod) (tempType s.inp.grp))
    ⟨encT s.inp.s0, encT s.inp.s1, encT s.inp.s2, encT s.inp.s3, encT s.inp.s4, encT s.inp.s5⟩)

/-- BLD_PACK1 (R177): pack voltage plain, the two cell voltages by the cell-voltage codec. -/
def execBldPack1 (s : State) : Host.Outcome State Fault Refusal :=
  s.drive (finish pack1Id (threeFields (encU16 s.inp.u0) (encCV s.inp.u1) (encCV s.inp.u2)))

/-- BLD_PACK2 (R178): average cell voltage by the cell-voltage codec, the two indices plain. -/
def execBldPack2 (s : State) : Host.Outcome State Fault Refusal :=
  s.drive (finish pack2Id (threeFields (encCV s.inp.u0) (encU16 s.inp.u1) (encU16 s.inp.u2)))

/-- BLD_PACK3 (R179): three temperatures, then padding. -/
def execBldPack3 (s : State) : Host.Outcome State Fault Refusal :=
  s.drive (finish pack3Id ⟨encT s.inp.s0, encT s.inp.s1, encT s.inp.s2, 0xFF, 0xFF, 0xFF⟩)

end Sys2Proof.Machine
end

