-- ==== Sys2Proof/Machine/Control.lean ====
section
/-! DEFINITION. The control operations (spec/45_control.md): NOP and the 13 reserved op codes. A reserved
op code is no trap: it drives `bad_op` (R231, spec/30_encoding.md R63). -/

namespace Sys2Proof.Machine

/-- NOP (R230): every output 0. -/
def execNop (s : State) : Host.Outcome State Fault Refusal := s.drive Outputs.zero

/-- What every reserved op code does (R231): no input is read, `bad_op` is 1. -/
def reservedOp (s : State) : Host.Outcome State Fault Refusal := s.drive badOpOutputs

/-- Op code 0x0C, reserved (R231). -/
def execReserved0C (s : State) : Host.Outcome State Fault Refusal := reservedOp s

/-- Op code 0x0D, reserved (R231). -/
def execReserved0D (s : State) : Host.Outcome State Fault Refusal := reservedOp s

/-- Op code 0x0E, reserved (R231). -/
def execReserved0E (s : State) : Host.Outcome State Fault Refusal := reservedOp s

/-- Op code 0x0F, reserved (R231). -/
def execReserved0F (s : State) : Host.Outcome State Fault Refusal := reservedOp s

/-- Op code 0x16, reserved (R231). -/
def execReserved16 (s : State) : Host.Outcome State Fault Refusal := reservedOp s

/-- Op code 0x17, reserved (R231). -/
def execReserved17 (s : State) : Host.Outcome State Fault Refusal := reservedOp s

/-- Op code 0x19, reserved (R231). -/
def execReserved19 (s : State) : Host.Outcome State Fault Refusal := reservedOp s

/-- Op code 0x1A, reserved (R231). -/
def execReserved1A (s : State) : Host.Outcome State Fault Refusal := reservedOp s

/-- Op code 0x1B, reserved (R231). -/
def execReserved1B (s : State) : Host.Outcome State Fault Refusal := reservedOp s

/-- Op code 0x1C, reserved (R231). -/
def execReserved1C (s : State) : Host.Outcome State Fault Refusal := reservedOp s

/-- Op code 0x1D, reserved (R231). -/
def execReserved1D (s : State) : Host.Outcome State Fault Refusal := reservedOp s

/-- Op code 0x1E, reserved (R231). -/
def execReserved1E (s : State) : Host.Outcome State Fault Refusal := reservedOp s

/-- Op code 0x1F, reserved (R231). -/
def execReserved1F (s : State) : Host.Outcome State Fault Refusal := reservedOp s

end Sys2Proof.Machine
end

