-- ==== Sys2Proof/Machine/CrcEngine.lean ====
section
/-! DEFINITION. The operations of the CRC engine (spec/40_crc.md R104 and R105). -/

namespace Sys2Proof.Machine

/-- CRC_GEN (R104). `fin[6]` and `fin[7]` are ignored. -/
def execCrcGen (s : State) : Host.Outcome State Fault Refusal :=
  let p := s.inp.fin.payload
  s.drive { Outputs.zero with crc := p.crc, fout := p.withTrailer p.crc }

/-- CRC_CHECK (R105). A mismatch is reported only as `ok = 0`. -/
def execCrcCheck (s : State) : Host.Outcome State Fault Refusal :=
  s.drive { Outputs.zero with crc := s.inp.fin.payload.crc, ok := s.inp.fin.crcOk }

end Sys2Proof.Machine
end

