-- ==== Sys2Proof/Machine/FrameDecoder.lean ====
section
/-! DEFINITION. The frame decoder (spec/44_frame_decoder.md): the kind codes, the classification of
message types, the values of each kind, and DECODE_FRAME. -/

namespace Sys2Proof.Machine

/-- The message kinds and result classes (spec/30_encoding.md R70). Codes 9 to 15 have no kind: they are
never driven, and a state with one has no meaning (spec/93_implementation_defined.md I12). -/
inductive Kind where
  | invalid
  | bal
  | cellv
  | temp
  | pack1
  | pack2
  | pack3
  | ambig
  | unknown
  deriving DecidableEq, Repr

/-- The 4-bit kind code (R70). -/
def Kind.code : Kind → KindCode
  | .invalid => 0
  | .bal => 1
  | .cellv => 2
  | .temp => 3
  | .pack1 => 4
  | .pack2 => 5
  | .pack3 => 6
  | .ambig => 7
  | .unknown => 8

/-- The kind a code stands for; codes 9 to 15 stand for none (R70, I12). -/
def Kind.ofCode (c : KindCode) : Option Kind :=
  match c.toNat with
  | 0 => some .invalid
  | 1 => some .bal
  | 2 => some .cellv
  | 3 => some .temp
  | 4 => some .pack1
  | 5 => some .pack2
  | 6 => some .pack3
  | 7 => some .ambig
  | 8 => some .unknown
  | _ => none

/-- `classify(VARIANT, t)`: the kind and the group index a message type stands for (R208). -/
def classify (var : Variant) (t : Byte) : Kind × Byte :=
  if t = 0x01#8 then (.bal, 0)
  else
    match var with
    | .small =>
      if 0x02 ≤ t.toNat ∧ t.toNat ≤ 0x09 then (.cellv, t - 0x02#8)
      else if 0x0D ≤ t.toNat ∧ t.toNat ≤ 0x0F then (.temp, 0x0F#8 - t)
      else (.unknown, 0)
    | .ext =>
      let lo := (t.extractLsb' 0 4).toNat
      let hi := (t.extractLsb' 4 4).toNat
      if t = 0x0D#8 then (.ambig, 0)
      else if t = 0x0E#8 ∨ t = 0x0F#8 then (.temp, 0x0F#8 - t)
      else if 0x2 ≤ lo ∧ lo ≤ 0xD then (.cellv, BitVec.ofNat 8 (hi * 12 + lo - 2))
      else (.unknown, 0)

/-- The values of a pack data 1 frame (R204). -/
def pack1Values (f : Frame) (o : Outputs) : Outputs :=
  { o with v0 := decU16 f.b0 f.b1, v1 := decCV f.b2 f.b3, v2 := decCV f.b4 f.b5 }

/-- The values of a pack data 2 frame (R205). -/
def pack2Values (f : Frame) (o : Outputs) : Outputs :=
  { o with v0 := decCV f.b0 f.b1, v1 := decU16 f.b2 f.b3, v2 := decU16 f.b4 f.b5 }

/-- The values of a pack data 3 frame (R206). Bytes 3 to 5 are not checked (R214). -/
def pack3Values (f : Frame) (o : Outputs) : Outputs :=
  { o with v0 := decT f.b0, v1 := decT f.b1, v2 := decT f.b2 }

/-- The value of a balancing-state frame (R209). Bytes 0 and 1 are not checked (R214). -/
def balValues (f : Frame) (o : Outputs) : Outputs :=
  { o with maskout := wordOfBytes f.b2 f.b3 f.b4 f.b5 }

/-- The values of a cell-voltage group frame (R210). -/
def cellvValues (g : Byte) (f : Frame) (o : Outputs) : Outputs :=
  { o with grpout := g, v0 := decCV f.b0 f.b1, v1 := decCV f.b2 f.b3, v2 := decCV f.b4 f.b5 }

/-- The values of a temperature group frame (R211). -/
def tempValues (g : Byte) (f : Frame) (o : Outputs) : Outputs :=
  { o with grpout := g, v0 := decT f.b0, v1 := decT f.b1, v2 := decT f.b2,
           v3 := decT f.b3, v4 := decT f.b4, v5 := decT f.b5 }

/-- The values of a per-module frame of a given kind and group (R200's last case split). K_AMBIG and
K_UNKNOWN decode nothing more (R212, R213); `classify` gives no other kind. -/
def moduleValues (k : Kind) (g : Byte) (f : Frame) (o : Outputs) : Outputs :=
  match k with
  | .bal => balValues f o
  | .cellv => cellvValues g f o
  | .temp => tempValues g f o
  | .ambig | .unknown | .invalid | .pack1 | .pack2 | .pack3 => o

/-- A valid frame under an identifier that is none of the three fixed ones (R207, R208). -/
def decodeModuleFrame (var : Variant) (id : Word) (f : Frame) (o : Outputs) : Outputs :=
  let (k, g) := classify var (typeOfId id)
  moduleValues k g f { o with modout := moduleOfId id, typout := typeOfId id, kind := k.code }

/-- DECODE_FRAME's outputs (R200): the CRC gate (R201, R202), the fixed identifiers (R203), then the
per-module scheme. -/
def decodeFrameOutputs (var : Variant) (id : Word) (f : Frame) : Outputs :=
  let o : Outputs := { Outputs.zero with crc := f.payload.crc }
  if f.crcOk then
    let o := { o with ok := true, fout := f }
    if id = pack1Id then pack1Values f { o with kind := Kind.pack1.code }
    else if id = pack2Id then pack2Values f { o with kind := Kind.pack2.code }
    else if id = pack3Id then pack3Values f { o with kind := Kind.pack3.code }
    else decodeModuleFrame var id f o
  else { o with kind := Kind.invalid.code }

/-- DECODE_FRAME (R200). -/
def execDecodeFrame (s : State) : Host.Outcome State Fault Refusal :=
  s.drive (decodeFrameOutputs s.variant s.inp.idin s.inp.fin)

end Sys2Proof.Machine
end

