-- ==== Sys2Proof/Machine/Dispatch.lean ====
section
/-! DEFINITION. One arm per operation (spec/30_encoding.md R61). -/

namespace Sys2Proof.Machine

/-- What each operation does (spec/10_state.md R28). -/
def exec (i : Instr) (s : State) : Host.Outcome State Fault Refusal :=
  match i with
  | .nop => Sys2Proof.Machine.execNop s
  | .crcGen => Sys2Proof.Machine.execCrcGen s
  | .crcCheck => Sys2Proof.Machine.execCrcCheck s
  | .encCellv => Sys2Proof.Machine.execEncCellv s
  | .decCellv => Sys2Proof.Machine.execDecCellv s
  | .encU16 => Sys2Proof.Machine.execEncU16 s
  | .decU16 => Sys2Proof.Machine.execDecU16 s
  | .encTemp => Sys2Proof.Machine.execEncTemp s
  | .decTemp => Sys2Proof.Machine.execDecTemp s
  | .makeId => Sys2Proof.Machine.execMakeId s
  | .decMod => Sys2Proof.Machine.execDecMod s
  | .decType => Sys2Proof.Machine.execDecType s
  | .reserved0C => Sys2Proof.Machine.execReserved0C s
  | .reserved0D => Sys2Proof.Machine.execReserved0D s
  | .reserved0E => Sys2Proof.Machine.execReserved0E s
  | .reserved0F => Sys2Proof.Machine.execReserved0F s
  | .bldBal => Sys2Proof.Machine.execBldBal s
  | .bldCellv => Sys2Proof.Machine.execBldCellv s
  | .bldTemp => Sys2Proof.Machine.execBldTemp s
  | .bldPack1 => Sys2Proof.Machine.execBldPack1 s
  | .bldPack2 => Sys2Proof.Machine.execBldPack2 s
  | .bldPack3 => Sys2Proof.Machine.execBldPack3 s
  | .reserved16 => Sys2Proof.Machine.execReserved16 s
  | .reserved17 => Sys2Proof.Machine.execReserved17 s
  | .decodeFrame => Sys2Proof.Machine.execDecodeFrame s
  | .reserved19 => Sys2Proof.Machine.execReserved19 s
  | .reserved1A => Sys2Proof.Machine.execReserved1A s
  | .reserved1B => Sys2Proof.Machine.execReserved1B s
  | .reserved1C => Sys2Proof.Machine.execReserved1C s
  | .reserved1D => Sys2Proof.Machine.execReserved1D s
  | .reserved1E => Sys2Proof.Machine.execReserved1E s
  | .reserved1F => Sys2Proof.Machine.execReserved1F s

end Sys2Proof.Machine
end

