-- ==== Sys2Proof/Machine/Step.lean ====
section
/-! DEFINITION. One step is one evaluation (spec/10_state.md R28): the operation on port `op` runs on the
input ports as they stand. -/

namespace Sys2Proof.Machine

/-- One evaluation. CORE moves past nothing: there is no program counter (R22), and the next evaluation's
operation is what the host puts on `op`. -/
def step (s : State) : Host.Outcome State Fault Refusal := exec (decodeOp s.fetch) s

/-- The state with an operation on port `op`, where `step` finds its next instruction. -/
def State.withFetchWord (s : State) (_nbits w : Nat) : State := { s with op := BitVec.ofNat 5 w }

end Sys2Proof.Machine
end

