-- ==== Sys2Proof/WellFormed.lean ====
section
/-! DEFINITION. When a line is well formed: each number fits its port (spec/10_state.md R26 widths,
spec/93_implementation_defined.md I1), `fin` has exactly eight bytes (spec/30_encoding.md R71) and no
port is given twice. An `Instr` has no field (R60), so there is nothing to check of it: all 32 values
of `op` are defined or reserved operations (R64). -/

namespace Sys2Proof

/-- The width of a port given as a number (R26). -/
def NumPort.width : NumPort → Nat
  | .mod | .typ | .grp => 8
  | .mask | .idin => 32
  | .u0 | .u1 | .u2 => 16
  | .s0 | .s1 | .s2 | .s3 | .s4 | .s5 => 16

/-- The temperature ports, whose negative decimal values stand for two's-complement patterns (R71, R11). -/
def NumPort.signed : NumPort → Bool
  | .s0 | .s1 | .s2 | .s3 | .s4 | .s5 => true
  | .mod | .typ | .grp | .mask | .idin | .u0 | .u1 | .u2 => false

/-- The lowest number a line may give a port. -/
def NumPort.least (p : NumPort) : Int := if p.signed then -(2 ^ (p.width - 1)) else 0

/-- What is wrong with one `port=value`, if anything. -/
def Assign.reject : Assign → Option LineReject
  | .num p v =>
    if v < p.least then some (.negativeValue p)
    else if 2 ^ p.width ≤ v then some (.valueTooWide p)
    else none
  | .fin bytes =>
    if bytes.length ≠ 8 then some .frameLength
    else if bytes.any (fun b => 256 ≤ b) then some .byteTooWide
    else none

/-- Two assignments of a line give the same port. -/
def Assign.samePort : Assign → Assign → Bool
  | .num p _, .num q _ => p == q
  | .fin _, .fin _ => true
  | .num _ _, .fin _ => false
  | .fin _, .num _ _ => false

/-- What is wrong with a list of assignments, if anything: the first in order. -/
def rejectOfAssigns : List Assign → Option LineReject
  | [] => none
  | a :: rest =>
    match a.reject with
    | some r => some r
    | none => if rest.any a.samePort then some .portTwice else rejectOfAssigns rest

/-- What is wrong with a line, if anything. -/
def Line.reject (l : Line) : Option LineReject := rejectOfAssigns l.assigns

/-- The line can be presented on CORE's ports as it is written. -/
def Line.wf (l : Line) : Bool := l.reject == none

end Sys2Proof
end

