-- ==== Sys2Proof/Machine/Assembler.lean ====
section
/-! DEFINITION. The assembler's view of an evaluation (spec/30_encoding.md R71, R72): a line's meaning as
values on the input ports, the line that spells an evaluation, and the text of a line. -/

namespace Sys2Proof.Machine

/-- The operation a pseudo-operation expands to (R72). -/
def pseudoExpansion : Pseudo → Instr
  | .encCidx => .encU16
  | .encPackv => .encU16
  | .decCidx => .decU16
  | .decPackv => .decU16
  | .isValid => .crcCheck
  | .crc16 => .crcGen

/-- The operation a line's name stands for. -/
def opOfName : OpName → Instr
  | .core i => i
  | .pseudo p => pseudoExpansion p

/-- One number put on its port. A negative number is its two's-complement pattern (R71). -/
def Inputs.setNum (i : Inputs) (p : NumPort) (v : Int) : Inputs :=
  match p with
  | .mod => { i with mod := BitVec.ofInt 8 v }
  | .typ => { i with typ := BitVec.ofInt 8 v }
  | .grp => { i with grp := BitVec.ofInt 8 v }
  | .mask => { i with mask := BitVec.ofInt 32 v }
  | .idin => { i with idin := BitVec.ofInt 32 v }
  | .u0 => { i with u0 := BitVec.ofInt 16 v }
  | .u1 => { i with u1 := BitVec.ofInt 16 v }
  | .u2 => { i with u2 := BitVec.ofInt 16 v }
  | .s0 => { i with s0 := BitVec.ofInt 16 v }
  | .s1 => { i with s1 := BitVec.ofInt 16 v }
  | .s2 => { i with s2 := BitVec.ofInt 16 v }
  | .s3 => { i with s3 := BitVec.ofInt 16 v }
  | .s4 => { i with s4 := BitVec.ofInt 16 v }
  | .s5 => { i with s5 := BitVec.ofInt 16 v }

/-- One `port=value` put on its port. -/
def Inputs.assign (i : Inputs) : Assign → Inputs
  | .num p v => i.setNum p v
  | .fin bytes =>
    match Frame.ofList (bytes.map (BitVec.ofNat 8)) with
    | some f => { i with fin := f }
    | none => i

/-- The evaluation a line stands for; an ill-formed line is turned away by name. A port that is not
written has the value 0 (R71). -/
def assemble (l : Line) : Except LineReject Evaluation :=
  match l.reject with
  | some r => .error r
  | none => .ok { op := encodeOp (opOfName l.name), inp := l.assigns.foldl Inputs.assign Inputs.zero }

/-- The line that writes every port of an evaluation. -/
def disassemble (e : Evaluation) : Line :=
  { name := .core (decodeOp e.op)
    assigns :=
      [.num .mod e.inp.mod.toNat, .num .typ e.inp.typ.toNat, .num .grp e.inp.grp.toNat,
       .num .mask e.inp.mask.toNat, .num .idin e.inp.idin.toNat,
       .num .u0 e.inp.u0.toNat, .num .u1 e.inp.u1.toNat, .num .u2 e.inp.u2.toNat] ++
      [.num .s0 e.inp.s0.toInt, .num .s1 e.inp.s1.toInt, .num .s2 e.inp.s2.toInt,
       .num .s3 e.inp.s3.toInt, .num .s4 e.inp.s4.toInt, .num .s5 e.inp.s5.toInt,
       .fin (e.inp.fin.bytes.map BitVec.toNat)] }

/-- The spellings of R61 and R72, and the bare codes of the reserved operations (spec/95_test_vectors.md
section 2.6). -/
def spellings : List (String × OpName) :=
  [("NOP", .core .nop), ("CRC_GEN", .core .crcGen), ("CRC_CHECK", .core .crcCheck),
   ("ENC_CELLV", .core .encCellv), ("DEC_CELLV", .core .decCellv), ("ENC_U16", .core .encU16),
   ("DEC_U16", .core .decU16), ("ENC_TEMP", .core .encTemp), ("DEC_TEMP", .core .decTemp),
   ("MAKE_ID", .core .makeId), ("DEC_MOD", .core .decMod), ("DEC_TYPE", .core .decType)] ++
  [("BLD_BAL", .core .bldBal), ("BLD_CELLV", .core .bldCellv), ("BLD_TEMP", .core .bldTemp),
   ("BLD_PACK1", .core .bldPack1), ("BLD_PACK2", .core .bldPack2), ("BLD_PACK3", .core .bldPack3),
   ("DECODE_FRAME", .core .decodeFrame)] ++
  [("ENC_CIDX", .pseudo .encCidx), ("ENC_PACKV", .pseudo .encPackv), ("DEC_CIDX", .pseudo .decCidx),
   ("DEC_PACKV", .pseudo .decPackv), ("IS_VALID", .pseudo .isValid), ("CRC16", .pseudo .crc16)] ++
  [("0x0C", .core .reserved0C), ("0x0D", .core .reserved0D), ("0x0E", .core .reserved0E),
   ("0x0F", .core .reserved0F), ("0x16", .core .reserved16), ("0x17", .core .reserved17),
   ("0x19", .core .reserved19), ("0x1A", .core .reserved1A), ("0x1B", .core .reserved1B),
   ("0x1C", .core .reserved1C), ("0x1D", .core .reserved1D), ("0x1E", .core .reserved1E),
   ("0x1F", .core .reserved1F)]

/-- The input-port names a line gives a number to (R71). -/
def portNames : List (String × NumPort) :=
  [("mod", .mod), ("typ", .typ), ("grp", .grp), ("mask", .mask), ("idin", .idin),
   ("u0", .u0), ("u1", .u1), ("u2", .u2), ("s0", .s0), ("s1", .s1), ("s2", .s2), ("s3", .s3),
   ("s4", .s4), ("s5", .s5)]

/-- The entry of a name in a list of names. -/
def lookupName {α : Type} (names : List (String × α)) (word : List Char) : Option α :=
  (names.find? (fun n => n.1.toList == word)).map Prod.snd

/-- Text cut at every occurrence of a character. -/
def splitAt (sep : Char) : List Char → List (List Char)
  | [] => [[]]
  | c :: rest =>
    match splitAt sep rest with
    | [] => [[c]]
    | w :: ws => if c = sep then [] :: w :: ws else (c :: w) :: ws

/-- Text without the blanks at its two ends. -/
def trimBlanks (t : List Char) : List Char :=
  ((t.dropWhile (· = ' ')).reverse.dropWhile (· = ' ')).reverse

/-- The characters that spell each hexadecimal digit, in the order of their values: a letter in either case
(R71's own bytes are in capitals; either case is the model's choice, notes/assumptions/9.md). -/
def digitSpellings : List (List Char) := splitAt ' ' "0 1 2 3 4 5 6 7 8 9 Aa Bb Cc Dd Ee Ff".toList

/-- The value of a digit: its place among the spellings. -/
def digitValue (c : Char) : Option Nat := digitSpellings.findIdx? (fun spelling => spelling.contains c)

/-- A number from its digits, most significant first: at least one, each below the base. Leading zeros change
nothing (the model's choice, notes/assumptions/9.md). -/
def natOfText (base : Nat) (t : List Char) : Option Nat :=
  match t.mapM digitValue with
  | none | some [] => none
  | some (d :: ds) =>
    if (d :: ds).all (fun digit => digit < base) then some (ds.foldl (fun high low => high * base + low) d)
    else none

/-- A number: decimal, hexadecimal with `0x`, or a negative decimal (R71). -/
def intOfText : List Char → Option Int
  | '-' :: ds => (natOfText 10 ds).map (fun n => -(n : Int))
  | '0' :: 'x' :: hs => (natOfText 16 hs).map Int.ofNat
  | ds => (natOfText 10 ds).map Int.ofNat

/-- The hexadecimal bytes of `fin`, separated by spaces (R71). How many digits spell one byte R71 does not say:
the model takes one or more, so `F`, `0F` and `00F` are one byte, and a value above 0xFF is refused by
`Assign.reject` (DESIGN CHOICE, notes/assumptions/9.md). -/
def bytesOfText (t : List Char) : Option (List Nat) :=
  ((splitAt ' ' t).filter (· ≠ [])).mapM (natOfText 16)

/-- One `port=value` of a line. -/
def assignOfText (t : List Char) : Except LineReject Assign :=
  match splitAt '=' t with
  | [port, value] =>
    let port := trimBlanks port
    let value := trimBlanks value
    if port = "fin".toList then
      match bytesOfText value with
      | some bs => .ok (.fin bs)
      | none => .error .badNumber
    else
      match lookupName portNames port, intOfText value with
      | some p, some v => .ok (.num p v)
      | none, _ => .error .unknownPort
      | some _, none => .error .badNumber
  | _ => .error .unknownPort

/-- The text of a line: the comment is dropped, the first word is the name, and the rest is a list of
`port=value` separated by commas (R71). -/
def lineOfText (t : List Char) : Except LineReject Line := do
  let body := trimBlanks (t.takeWhile (· ≠ ';'))
  let word := body.takeWhile (· ≠ ' ')
  let rest := trimBlanks (body.dropWhile (· ≠ ' '))
  let name ← match lookupName spellings word with
    | some n => .ok n
    | none => .error .unknownName
  let assigns ← if rest = [] then .ok [] else (splitAt ',' rest).mapM assignOfText
  return { name := name, assigns := assigns }

/-- The evaluation that a line of assembler text stands for. -/
def assembleText (t : String) : Except LineReject Evaluation :=
  match lineOfText t.toList with
  | .ok l => assemble l
  | .error r => .error r

end Sys2Proof.Machine
end

