-- ==== Sys2Proof/Machine/HostSide.lean ====
section
/-! DEFINITION. The host's side of the ports: the transfer function, sequences of evaluations, and the
moves the host may make between evaluations (spec/92_eei_decisions.md D10). VARIANT is no move: it is
fixed before the first evaluation (spec/70_reset_and_hazards.md R263), so a run that changes it cannot be
written (spec/93_implementation_defined.md I8). -/

namespace Sys2Proof.Machine

/-- `F : VARIANT x In -> Out` (spec/10_state.md R28): what an evaluation drives, read off a step from a
state whose outputs are 0. No step faults or refuses (R240), so the last two cases do not arise. -/
def transfer (var : Variant) (e : Evaluation) : Outputs :=
  match step ((State.resetWith var).present e) with
  | .next t => t.out
  | .fault _ => Outputs.zero
  | .refused _ => Outputs.zero

/-- A sequence of evaluations, with the outputs of each (spec/20_memory.md R48). -/
def runEvaluations : List Evaluation → State → Host.Outcome (State × List Outputs) Fault Refusal
  | [], s => .next (s, [])
  | e :: rest, s =>
    match step (s.present e) with
    | .next t =>
      match runEvaluations rest t with
      | .next (u, outs) => .next (u, t.out :: outs)
      | .fault r => .fault r
      | .refused r => .refused r
    | .fault r => .fault r
    | .refused r => .refused r

/-- What the host does to CORE (D10's table): it presents inputs, has them evaluated, copies a result back
to the inputs, or resets a registered CORE. -/
inductive HostMove where
  /-- Present one evaluation's inputs. -/
  | present (e : Evaluation)
  /-- Present the inputs a line of assembler text spells (spec/30_encoding.md R71). -/
  | line (l : Line)
  /-- Let CORE evaluate what is presented. -/
  | evaluate
  /-- Copy `idout` and `fout` to `idin` and `fin` and select the next operation (R267). -/
  | chain (op : OpCode)
  /-- Reset (R262). -/
  | reset
  deriving DecidableEq, Repr

/-- One move of the host. -/
def hostStep (m : HostMove) (s : State) : Host.Outcome State Fault Refusal :=
  match m with
  | .present e => .next (s.present e)
  | .line l =>
    match assemble l with
    | .ok e => .next (s.present e)
    | .error r => .refused (.lineRejected r)
  | .evaluate => step s
  | .chain op => .next (s.offer op s.message)
  | .reset => .next s.afterReset

/-- A run of moves. -/
def hostRun : List HostMove → State → Host.Outcome State Fault Refusal
  | [], s => .next s
  | m :: rest, s =>
    match hostStep m s with
    | .next t => hostRun rest t
    | .fault r => .fault r
    | .refused r => .refused r

end Sys2Proof.Machine
end

