-- ==== Sys2Proof/Machine/Clocked.lean ====
section
/-! DEFINITION. CORE with a clock (spec/70_reset_and_hazards.md R261, R262, R265, R268, R269): a cycle view
beside `step`, which takes one evaluation whole. LATENCY is its argument (R269), 0 for a combinational
CORE. -/

namespace Sys2Proof.Machine

/-- A clocked CORE: its ports, and how long the inputs have been stable. -/
structure Clocked where
  /-- VARIANT and the input ports. -/
  variant : Variant
  /-- The evaluation on the input ports. -/
  inputs : Evaluation
  /-- The clocks for which the inputs have held their values. -/
  stable : Nat
  /-- No evaluation has completed since reset (R262). -/
  sinceReset : Bool
  /-- Which free value unsettled outputs show; it moves on at every clock and change (the model's own). -/
  seed : Nat
  deriving DecidableEq, Repr

/-- The host's presentation: a change of any input starts the evaluation again (R265). Presenting the values
already on the ports changes nothing (notes/assumptions/14.md). -/
def Clocked.present (c : Clocked) (e : Evaluation) : Clocked :=
  if e = c.inputs then c else { c with inputs := e, stable := 0, seed := c.seed + 1 }

/-- One clock. An evaluation completes when the inputs have been stable for LATENCY clocks (R269). -/
def Clocked.tick (latency : Nat) (c : Clocked) : Clocked :=
  { c with stable := c.stable + 1, seed := c.seed + 1,
           sinceReset := c.sinceReset && decide (c.stable + 1 < latency) }

/-- `n` clocks with the inputs held. -/
def Clocked.ticks (latency : Nat) : Nat → Clocked → Clocked
  | 0, c => c
  | n + 1, c => Clocked.ticks latency n (c.tick latency)

/-- Reset: an evaluation in progress and any partial CRC are lost (R262); VARIANT is not changed (R263). The
inputs stay on their ports, and inputs merely held through a reset count as presented again: their evaluation
starts anew at the reset (DESIGN CHOICE, notes/assumptions/14.md; D10 has the host "present the next
evaluation's inputs again after reset"). -/
def Clocked.reset (c : Clocked) : Clocked := { c with stable := 0, sinceReset := true, seed := c.seed + 1 }

/-- What the output ports show: the transfer function once the inputs have been stable for LATENCY clocks
(R265, and always when LATENCY is 0, R261); 0 after reset until the first evaluation completes (R262);
otherwise a free value (spec/93_implementation_defined.md I5, I6). -/
def Clocked.outputs (latency : Nat) (c : Clocked) : Outputs :=
  if latency ≤ c.stable then transfer c.variant c.inputs
  else if c.sinceReset then Outputs.zero
  else Config.unsettledOut c.seed

/-- The bits of a byte in the order the CRC engine feeds them, bit 7 first (spec/20_memory.md R44). -/
def msbFirst (b : Byte) : List Bool :=
  [b.getLsbD 7, b.getLsbD 6, b.getLsbD 5, b.getLsbD 4,
   b.getLsbD 3, b.getLsbD 2, b.getLsbD 1, b.getLsbD 0]

/-- One clock of a bit-serial CRC engine: the next message bit is added to the register's top bit, then
one bit step (spec/40_crc.md R101; R268 "bit-serial CRC"). -/
def crcBit (c : Half) (bit : Bool) : Half :=
  crcStep (if bit then c ^^^ 0x8000#16 else c)

/-- The CRC of a bit-serial engine, one bit step a clock. -/
def crcSerial (bs : List Byte) : Half := (bs.flatMap msbFirst).foldl crcBit crcInit

end Sys2Proof.Machine
end

