-- ==== Sys2Proof/Machine/Legal.lean ====
section
/-! DEFINITION. The legal inputs of the builders (spec/43_frame_builders.md R180): the inputs whose frames
read back unchanged. A builder accepts every other value too, and never signals a range error. -/

namespace Sys2Proof.Machine

/-- `mod` of the per-module builders: 0 to 255 in SMALL, 0 to 254 in EXT. -/
def legalModule : Variant → Byte → Bool
  | .small, _ => true
  | .ext, m => decide (m.toNat ≤ 254)

/-- `grp` of BLD_CELLV: 0 to 7 in SMALL, 0 to 191 except 11 in EXT. -/
def legalCellGroup : Variant → Byte → Bool
  | .small, g => decide (g.toNat ≤ 7)
  | .ext, g => decide (g.toNat ≤ 191) && decide (g.toNat ≠ 11)

/-- `grp` of BLD_TEMP: 0 to 2 in SMALL, 0 to 1 in EXT. -/
def legalTempGroup : Variant → Byte → Bool
  | .small, g => decide (g.toNat ≤ 2)
  | .ext, g => decide (g.toNat ≤ 1)

/-- A cell voltage of 0 to 16383 mV. -/
def legalCellVoltage (v : Half) : Bool := decide (v.toNat ≤ 16383)

/-- A temperature of -40 to 215 °C. -/
def legalTemp (s : Half) : Bool := decide (-40 ≤ s.toInt) && decide (s.toInt ≤ 215)

end Sys2Proof.Machine
end

