-- ==== Sys2Proof/Machine/Errors.lean ====
section
/-! DEFINITION. Transmission errors as the CRC laws speak of them (spec/40_crc.md R106): a data error `e`
and a trailer error `f` added to a frame bit by bit. -/

namespace Sys2Proof.Machine

/-- Six data bytes of zeros. -/
def Payload.zero : Payload := ⟨0, 0, 0, 0, 0, 0⟩

/-- `p XOR e`, byte by byte. -/
def Payload.xor (p e : Payload) : Payload :=
  ⟨p.p0 ^^^ e.p0, p.p1 ^^^ e.p1, p.p2 ^^^ e.p2, p.p3 ^^^ e.p3, p.p4 ^^^ e.p4, p.p5 ^^^ e.p5⟩

/-- A frame with an error pattern added to it. -/
def Frame.xor (f e : Frame) : Frame :=
  ⟨f.b0 ^^^ e.b0, f.b1 ^^^ e.b1, f.b2 ^^^ e.b2, f.b3 ^^^ e.b3,
   f.b4 ^^^ e.b4, f.b5 ^^^ e.b5, f.b6 ^^^ e.b6, f.b7 ^^^ e.b7⟩

/-- `L(e) = crc16(e) XOR crc16(000000000000)`. -/
def crcDelta (e : Payload) : Half := e.crc ^^^ Payload.zero.crc

/-- The error pattern with exactly one bit set: bit `k` of the frame's flat form (R42). -/
def Frame.oneBit (k : Fin 64) : Frame := Frame.ofFlat (1#64 <<< k.val)

end Sys2Proof.Machine
end

