-- ==== Sys2Proof/Safety.lean ====
section
/-! DEFINITION. The terms the claims are stated in: the states that evaluations leave (the invariant), the
ports each operation reads and drives (spec/30_encoding.md R65), and the arithmetic forms of the fields. -/

namespace Sys2Proof.Machine

/-- The output ports hold what some evaluation can drive, or the zeros of reset. -/
structure Outputs.Sound (o : Outputs) : Prop where
  /-- Kind codes 9 to 15 are never driven (R70). -/
  kind_named : o.kind.toNat ≤ 8
  /-- An identifier on the port is one CORE produces (spec/10_state.md R31). -/
  idout_range : o.idout = 0 ∨ (0x6000 ≤ o.idout.toNat ∧ o.idout.toNat ≤ 0x15FFF)
  /-- `bad_op` comes with nothing else (spec/45_control.md R231). -/
  badOp_alone : o.badOp = true → o = badOpOutputs
  /-- A trailer on `fout` is the CRC of the bytes before it, and `crc` shows it (R66, R170, R201). -/
  fout_sealed : o.fout.trailer ≠ 0 → o.fout.crcOk = true ∧ o.crc = o.fout.trailer
  /-- A kind is reported only of a valid frame, which is passed through (R201, R202). -/
  kind_valid : o.kind ≠ 0 → o.ok = true ∧ o.fout.crcOk = true ∧ o.crc = o.fout.trailer
  /-- A mask is decoded only from a balancing-state frame (R209). -/
  mask_of_bal : o.maskout ≠ 0 → o.kind = Kind.bal.code
  /-- A group is decoded only from a cell-voltage or temperature frame (R210, R211). -/
  group_of_module : o.grpout ≠ 0 → o.kind = Kind.cellv.code ∨ o.kind = Kind.temp.code
  /-- The last three values are decoded only from a temperature frame (R211). -/
  late_values_of_temp : o.v3 ≠ 0 ∨ o.v4 ≠ 0 ∨ o.v5 ≠ 0 → o.kind = Kind.temp.code

/-- The invariant that every step keeps: sound outputs, and `ok` only while the frame on `fin` is valid. -/
structure State.Sound (s : State) : Prop where
  out_sound : s.out.Sound
  ok_valid : s.out.ok = true → s.inp.fin.crcOk = true

/-- Two states agree on every port (and VARIANT) that R65's "reads" column gives an operation. -/
def readsAgree (i : Instr) (s t : State) : Prop :=
  match i with
  | .nop => True
  | .crcGen => s.inp.fin.payload = t.inp.fin.payload
  | .crcCheck => s.inp.fin = t.inp.fin
  | .encCellv | .encU16 => s.inp.u0 = t.inp.u0
  | .decCellv | .decU16 => s.inp.fin.b0 = t.inp.fin.b0 ∧ s.inp.fin.b1 = t.inp.fin.b1
  | .encTemp => s.inp.s0 = t.inp.s0
  | .decTemp => s.inp.fin.b0 = t.inp.fin.b0
  | .makeId => s.inp.mod = t.inp.mod ∧ s.inp.typ = t.inp.typ
  | .decMod | .decType => s.inp.idin = t.inp.idin
  | .bldBal => s.inp.mod = t.inp.mod ∧ s.inp.mask = t.inp.mask ∧ s.variant = t.variant
  | .bldCellv =>
    s.inp.mod = t.inp.mod ∧ s.inp.grp = t.inp.grp ∧ s.inp.u0 = t.inp.u0 ∧ s.inp.u1 = t.inp.u1 ∧
      s.inp.u2 = t.inp.u2 ∧ s.variant = t.variant
  | .bldTemp =>
    s.inp.mod = t.inp.mod ∧ s.inp.grp = t.inp.grp ∧ s.inp.s0 = t.inp.s0 ∧ s.inp.s1 = t.inp.s1 ∧
      s.inp.s2 = t.inp.s2 ∧ s.inp.s3 = t.inp.s3 ∧ s.inp.s4 = t.inp.s4 ∧ s.inp.s5 = t.inp.s5 ∧
      s.variant = t.variant
  | .bldPack1 | .bldPack2 =>
    s.inp.u0 = t.inp.u0 ∧ s.inp.u1 = t.inp.u1 ∧ s.inp.u2 = t.inp.u2
  | .bldPack3 => s.inp.s0 = t.inp.s0 ∧ s.inp.s1 = t.inp.s1 ∧ s.inp.s2 = t.inp.s2
  | .decodeFrame => s.inp.idin = t.inp.idin ∧ s.inp.fin = t.inp.fin ∧ s.variant = t.variant
  | .reserved0C | .reserved0D | .reserved0E | .reserved0F | .reserved16 | .reserved17
  | .reserved19 | .reserved1A | .reserved1B | .reserved1C | .reserved1D | .reserved1E
  | .reserved1F => True

/-- Outside the ports that R65's "drives" column gives an operation, every output is 0 (R10, R27). -/
def drivesOnly (i : Instr) (o : Outputs) : Prop :=
  match i with
  | .nop => o = Outputs.zero
  | .crcGen => o = { Outputs.zero with crc := o.crc, fout := o.fout }
  | .crcCheck => o = { Outputs.zero with crc := o.crc, ok := o.ok }
  | .encCellv | .encU16 =>
    o = { Outputs.zero with fout := { Frame.zero with b0 := o.fout.b0, b1 := o.fout.b1 } }
  | .encTemp => o = { Outputs.zero with fout := { Frame.zero with b0 := o.fout.b0 } }
  | .decCellv | .decU16 | .decTemp => o = { Outputs.zero with v0 := o.v0 }
  | .makeId => o = { Outputs.zero with idout := o.idout }
  | .decMod => o = { Outputs.zero with modout := o.modout }
  | .decType => o = { Outputs.zero with typout := o.typout }
  | .bldBal | .bldCellv | .bldTemp | .bldPack1 | .bldPack2 | .bldPack3 =>
    o = { Outputs.zero with idout := o.idout, fout := o.fout, crc := o.crc }
  | .decodeFrame => o.idout = 0 ∧ o.badOp = false
  | .reserved0C | .reserved0D | .reserved0E | .reserved0F | .reserved16 | .reserved17
  | .reserved19 | .reserved1A | .reserved1B | .reserved1C | .reserved1D | .reserved1E
  | .reserved1F => o = { Outputs.zero with badOp := true }

end Sys2Proof.Machine

namespace Sys2Proof.Claims

open Sys2Proof.Machine

/-- Byte A of a cell voltage: the value modulo 256 (R120). -/
def cellLow (v : Half) : Byte := BitVec.ofNat 8 (v.toNat % 256)

/-- Byte B of a cell voltage: bits 8 to 13, `value / 256` modulo 64 (R120). -/
def cellHigh (v : Half) : Byte := BitVec.ofNat 8 (v.toNat / 256 % 64)

/-- The high byte of a 16-bit value (R122). -/
def high (v : Half) : Byte := BitVec.ofNat 8 (v.toNat / 256)

/-- The low byte of a 16-bit value (R122). -/
def low (v : Half) : Byte := BitVec.ofNat 8 (v.toNat % 256)

/-- The byte of a temperature: the exact sum with 40, not below 0 and not above 255 (R123). -/
def tempByte (s : Half) : Byte := BitVec.ofNat 8 (min 255 (s.toInt + 40).toNat)

/-- A decoded cell voltage (R121). -/
def cellValue (a b : Byte) : Half := BitVec.ofNat 16 (a.toNat + b.toNat % 64 * 256)

/-- A decoded plain 16-bit value (R122). -/
def plainValue (a b : Byte) : Half := BitVec.ofNat 16 (a.toNat * 256 + b.toNat)

/-- A decoded temperature, 16-bit two's complement (R124). -/
def tempValue (e : Byte) : Half := e.setWidth 16 - 40#16

/-- The bits `k+7` down to `k` of a 32-bit value, by division. -/
def byteAt (m : Word) (k : Nat) : Byte := BitVec.ofNat 8 (m.toNat / 2 ^ k % 256)

/-- The module number a per-module builder sends (R171). -/
def sentModule (var : Variant) (m : Byte) : Nat :=
  match var with
  | .small => m.toNat
  | .ext => (m.toNat + 1) % 256

/-- The cell-voltage message type (R172). -/
def sentCellType (var : Variant) (g : Byte) : Nat :=
  match var with
  | .small => (2 + g.toNat) % 256
  | .ext => (2 + g.toNat % 12 + 16 * (g.toNat / 12)) % 256

/-- The temperature message type, `0x0F - g` modulo 256 (R173). -/
def sentTempType (g : Byte) : Nat := (0x10F - g.toNat) % 256

/-- The whole state after a builder: only the outputs change, to the identifier, the sealed frame and its
CRC, and every other output is 0 (R170). -/
def built (s : State) (id : Nat) (p : Payload) : State :=
  let c := crc16 [p.p0, p.p1, p.p2, p.p3, p.p4, p.p5]
  { s with out := { Outputs.zero with
      idout := BitVec.ofNat 32 id
      fout := ⟨p.p0, p.p1, p.p2, p.p3, p.p4, p.p5, high c, low c⟩
      crc := c } }

/-- The trailer holds the CRC of the data bytes, by the stored 16-bit value (R105). -/
abbrev ValidFrame (f : Frame) : Prop :=
  crc16 [f.b0, f.b1, f.b2, f.b3, f.b4, f.b5] = plainValue f.b6 f.b7

/-- The identifier is none of the three fixed ones (R203). -/
abbrev PerModuleId (id : Word) : Prop := id ≠ 0x8000#32 ∧ id ≠ 0x8010#32 ∧ id ≠ 0x8020#32

/-- The outputs DECODE_FRAME drives for every valid per-module frame, whatever its kind (R201, R207). -/
def moduleOutputs (s : State) (k : KindCode) : Outputs :=
  { Outputs.zero with
      ok := true
      crc := plainValue s.inp.fin.b6 s.inp.fin.b7
      fout := s.inp.fin
      kind := k
      modout := s.inp.idin.extractLsb' 8 8 - 0x60#8
      typout := s.inp.idin.extractLsb' 0 8 }

end Sys2Proof.Claims
end

