-- ==== Sys2Proof/Certificates/Slice0/Obligations.lean ====
section
/-! DEFINITION. The statements for the provers. Each docstring names the rule it formalises. -/

open Sys2Proof
open Sys2Proof.Machine

/-! ### Encoding and the step -/

/-- R61: the op-code map, all 32 values of `op`, through the decoder of table words. -/
def Obligations.OpcodeMapDecodes : Prop :=
  ∀ row ∈ ([(0x00, .nop), (0x01, .crcGen), (0x02, .crcCheck), (0x03, .encCellv), (0x04, .decCellv),
      (0x05, .encU16), (0x06, .decU16), (0x07, .encTemp), (0x08, .decTemp), (0x09, .makeId),
      (0x0A, .decMod), (0x0B, .decType), (0x0C, .reserved0C), (0x0D, .reserved0D),
      (0x0E, .reserved0E), (0x0F, .reserved0F)] ++
      [(0x10, .bldBal), (0x11, .bldCellv), (0x12, .bldTemp), (0x13, .bldPack1), (0x14, .bldPack2),
      (0x15, .bldPack3), (0x16, .reserved16), (0x17, .reserved17), (0x18, .decodeFrame),
      (0x19, .reserved19), (0x1A, .reserved1A), (0x1B, .reserved1B), (0x1C, .reserved1C),
      (0x1D, .reserved1D), (0x1E, .reserved1E), (0x1F, .reserved1F)] : List (Nat × Instr)),
    decodeTableWord 8 row.1 = some row.2

/-- R64: 19 of the 32 codes are defined and 13 are reserved, these and no others; every code is read. -/
def Obligations.ThirteenCodesReserved : Prop :=
  (∀ op : OpCode, (decodeOp op).reserved = true ↔
    op.toNat ∈ [0x0C, 0x0D, 0x0E, 0x0F, 0x16, 0x17, 0x19, 0x1A, 0x1B, 0x1C, 0x1D, 0x1E, 0x1F]) ∧
  ((List.range 32).filter (fun n => !(decodeOp (BitVec.ofNat 5 n)).reserved)).length = 19 ∧
  ∀ op : OpCode, encodeOp (decodeOp op) = op

/-- R60, R50, R28: a step runs the operation that the value on `op` encodes, and nothing is added around it;
a table word is put where the step reads it, with every other port as it was. -/
def Obligations.StepRunsTheSelectedOperation : Prop :=
  (∀ (i : Instr) (s : State), decodeOp s.op = i → step s = exec i s) ∧
  (∀ (i : Instr) (s : State) (nbits : Nat),
    decodeTableWord nbits (encodeOp i).toNat = some i ∧
    s.withFetchWord nbits (encodeOp i).toNat = { s with op := encodeOp i } ∧
    step (s.withFetchWord nbits (encodeOp i).toNat) = exec i { s with op := encodeOp i })

/-- R60 and the byte carrier of notes/assumptions/4.md (the model's choice): decoding the encoded operation
gives it back with the bytes after it, and a byte with any of bits 7:5 set is refused by name. -/
def Obligations.ByteCarrierRoundTrips : Prop :=
  (∀ (i : Instr) (rest : List Byte), decode (encode i ++ rest) = .ok (i, rest)) ∧
  (∀ (b : Byte) (rest : List Byte), 32 ≤ b.toNat → decode (b :: rest) = .error (.widerThanPort b)) ∧
  (∀ (b : Byte) (rest : List Byte) (i : Instr), decode (b :: rest) = .ok (i, rest) → [b] = encode i)

/-! ### Control -/

/-- R230: NOP drives every output to 0. -/
def Obligations.NopDrivesAllZero : Prop :=
  ∀ s : State, exec .nop s = .next { s with out := Outputs.zero }

/-- R231: each reserved code runs, drives `bad_op` to 1 and every other output to 0, and reads no input. -/
def Obligations.ReservedCodesDriveBadOp : Prop :=
  ∀ (i : Instr) (s : State),
    i ∈ [.reserved0C, .reserved0D, .reserved0E, .reserved0F, .reserved16, .reserved17, .reserved19,
      .reserved1A, .reserved1B, .reserved1C, .reserved1D, .reserved1E, .reserved1F] →
    exec i s = .next { s with out := { Outputs.zero with badOp := true } }

/-- R240: no step of any state stops. -/
def Obligations.NoStepStops : Prop := ∀ s : State, ∃ t : State, step s = .next t

/-! ### CRC engine -/

/-- R100: the CRC of a byte sequence, byte by byte from the front; the empty sequence gives 0xFFFF. -/
def Obligations.CrcTakesBytesMsbFirst : Prop :=
  crc16 [] = 0xFFFF#16 ∧
  ∀ (bs : List Byte) (b : Byte),
    crc16 (bs ++ [b]) = crcStep^[8] (crc16 bs ^^^ BitVec.ofNat 16 (b.toNat * 256))

/-- R101 and R268: one bit step in arithmetic, 48 of them for six bytes, and a bit-serial engine gives the same
CRC for every byte sequence. The engine of the last clause, `crcSerial`, is the model's own (DEDUCED,
notes/assumptions/13.md): R268 allows a bit-serial CRC and no rule spells one out. -/
def Obligations.BitSerialEngineAgrees : Prop :=
  (∀ c : Half, (crcStep c).toNat =
    if 2 ^ 15 ≤ c.toNat then (2 * c.toNat % 2 ^ 16) ^^^ 0x1021 else 2 * c.toNat) ∧
  (∀ p : Payload, (p.bytes.flatMap msbFirst).length = 48) ∧
  (∀ bs : List Byte, crcSerial bs = crc16 bs)

/-- R104: CRC_GEN, and the CRC of six zero bytes and of six 0xFF bytes. -/
def Obligations.CrcGenSealsTheFrame : Prop :=
  (∀ s : State,
    exec .crcGen s =
      (let f := s.inp.fin
       let c := crc16 [f.b0, f.b1, f.b2, f.b3, f.b4, f.b5]
       .next { s with out := { Outputs.zero with
         crc := c
         fout := { f with b6 := Claims.high c, b7 := Claims.low c } } })) ∧
  crc16 [0, 0, 0, 0, 0, 0] = 0x0E10#16 ∧
  crc16 [0xFF, 0xFF, 0xFF, 0xFF, 0xFF, 0xFF] = 0x99CF#16

/-- R105: CRC_CHECK reports the CRC of bytes 0 to 5 and whether the big-endian trailer is that value; a
byte-swapped trailer fails unless its two bytes are equal, the all-zero frame fails, and so does a valid frame
with exactly one bit flipped. -/
def Obligations.CrcCheckComparesTheTrailer : Prop :=
  (∀ s : State,
    let f := s.inp.fin
    let c := crc16 [f.b0, f.b1, f.b2, f.b3, f.b4, f.b5]
    exec .crcCheck s = .next { s with out := { Outputs.zero with
      crc := c
      ok := decide (c.toNat = f.b6.toNat * 256 + f.b7.toNat) } }) ∧
  (∀ (s : State), s.inp.fin = Frame.zero →
    exec .crcCheck s = .next { s with out := { Outputs.zero with crc := 0x0E10#16 } }) ∧
  (∀ (s : State) (p : Payload), p.crc.toNat / 256 ≠ p.crc.toNat % 256 →
    s.inp.fin = ⟨p.p0, p.p1, p.p2, p.p3, p.p4, p.p5, Claims.low p.crc, Claims.high p.crc⟩ →
    exec .crcCheck s = .next { s with out := { Outputs.zero with crc := p.crc } }) ∧
  (∀ (s : State) (f : Frame) (k : Fin 64), Claims.ValidFrame f → s.inp.fin = f.xor (Frame.oneBit k) →
    ∃ c : Half, exec .crcCheck s = .next { s with out := { Outputs.zero with crc := c } })

/-- R106: round trip, affine form, the criterion, and the rejection of every single-bit error. -/
def Obligations.CrcErrorDetectionLaws : Prop :=
  (∀ (s : State) (p : Payload), s.inp.fin = p.withTrailer p.crc →
    exec .crcCheck s = .next { s with out := { Outputs.zero with crc := p.crc, ok := true } }) ∧
  (∀ p e : Payload, (p.xor e).crc = p.crc ^^^ crcDelta e) ∧
  (∀ e e' : Payload, crcDelta (e.xor e') = crcDelta e ^^^ crcDelta e') ∧
  crcDelta Payload.zero = 0 ∧
  (∀ f err : Frame, f.crcOk = true → ((f.xor err).crcOk = true ↔ crcDelta err.payload = err.trailer)) ∧
  (∀ k : Fin 64, 16 ≤ k.val → crcDelta (Frame.oneBit k).payload ≠ 0) ∧
  (∀ (f : Frame) (k : Fin 64), f.crcOk = true → (f.xor (Frame.oneBit k)).crcOk = false)

/-- R106 with R202: a valid frame with exactly one bit flipped, data or trailer, is turned away by
DECODE_FRAME under every identifier, with nothing decoded. -/
def Obligations.SingleBitErrorNeverDecodes : Prop :=
  ∀ (s : State) (f : Frame) (k : Fin 64), Claims.ValidFrame f → s.inp.fin = f.xor (Frame.oneBit k) →
    exec .decodeFrame s = .next { s with out := { Outputs.zero with
      crc := crc16 [s.inp.fin.b0, s.inp.fin.b1, s.inp.fin.b2, s.inp.fin.b3, s.inp.fin.b4, s.inp.fin.b5] } }

/-! ### Field codecs -/

/-- R125: ENC_CELLV. -/
def Obligations.EncCellvResult : Prop :=
  ∀ s : State, exec .encCellv s = .next { s with out := { Outputs.zero with
    fout := { Frame.zero with b0 := Claims.cellLow s.inp.u0, b1 := Claims.cellHigh s.inp.u0 } } }

/-- R126: DEC_CELLV; bits 7:6 of byte B are ignored. -/
def Obligations.DecCellvResult : Prop :=
  ∀ s : State, exec .decCellv s = .next { s with out := { Outputs.zero with
    v0 := Claims.cellValue s.inp.fin.b0 s.inp.fin.b1 } }

/-- R127 and R128: ENC_U16 and DEC_U16, both big-endian. -/
def Obligations.PlainCodecResults : Prop :=
  ∀ s : State,
    exec .encU16 s = .next { s with out := { Outputs.zero with
      fout := { Frame.zero with b0 := Claims.high s.inp.u0, b1 := Claims.low s.inp.u0 } } } ∧
    exec .decU16 s = .next { s with out := { Outputs.zero with
      v0 := Claims.plainValue s.inp.fin.b0 s.inp.fin.b1 } }

/-- R129: ENC_TEMP; the sum is exact and both ends saturate. -/
def Obligations.EncTempResult : Prop :=
  ∀ s : State,
    exec .encTemp s = .next { s with out := { Outputs.zero with
      fout := { Frame.zero with b0 := Claims.tempByte s.inp.s0 } } } ∧
    (s.inp.s0.toInt ≤ -40 → Claims.tempByte s.inp.s0 = 0) ∧
    (215 ≤ s.inp.s0.toInt → Claims.tempByte s.inp.s0 = 255)

/-- R130: DEC_TEMP; every byte value decodes. -/
def Obligations.DecTempResult : Prop :=
  ∀ s : State, exec .decTemp s = .next { s with out := { Outputs.zero with
    v0 := Claims.tempValue s.inp.fin.b0 } }

/-- R120: the cell-voltage encoder discards bits 15:14, and bits 7:6 of byte B are 0. -/
def Obligations.CellVoltageEncoderWraps : Prop :=
  ∀ v : Half,
    encCV v = (Claims.cellLow v, Claims.cellHigh v) ∧
    encCV v = encCV (BitVec.ofNat 16 (v.toNat % 16384)) ∧
    (encCV v).2.toNat < 64

/-- R131: the round trips of the codecs. -/
def Obligations.CodecRoundTrips : Prop :=
  (∀ v : Half, v.toNat ≤ 16383 → decCV (encCV v).1 (encCV v).2 = v) ∧
  (∀ v : Half, (decCV (encCV v).1 (encCV v).2).toNat = v.toNat % 16384) ∧
  (∀ v : Half, decU16 (encU16 v).1 (encU16 v).2 = v) ∧
  (∀ s : Half, -40 ≤ s.toInt → s.toInt ≤ 215 → signed16 (decT (encT s)) = s.toInt) ∧
  (∀ s : Half, s.toInt < -40 → encT s = 0) ∧
  (∀ s : Half, 215 < s.toInt → encT s = 255) ∧
  (∀ e : Byte, encT (decT e) = e)

/-! ### Identifier codec -/

/-- R153 and R68: MAKE_ID, as a number and by its fields. -/
def Obligations.MakeIdResult : Prop :=
  ∀ s : State, ∃ id : Word,
    exec .makeId s = .next { s with out := { Outputs.zero with idout := id } } ∧
    id.toNat = 0x6000 + s.inp.mod.toNat * 256 + s.inp.typ.toNat ∧
    id.extractLsb' 0 8 = s.inp.typ ∧
    (id.extractLsb' 8 9).toNat = 0x60 + s.inp.mod.toNat ∧
    id.extractLsb' 17 15 = 0 ∧
    (id.getLsbD 16 = true ↔ 0xA0 ≤ s.inp.mod.toNat) ∧
    (s.inp.mod.toNat ≤ 15 → id.toNat ≤ 0x6FFF ∧ (id.extractLsb' 8 4).toNat = s.inp.mod.toNat)

/-- R154: DEC_MOD, for every identifier: `(i[15:8] - 0x60) mod 256`. -/
def Obligations.DecModResult : Prop :=
  ∀ s : State, exec .decMod s = .next { s with out := { Outputs.zero with
    modout := BitVec.ofNat 8 ((s.inp.idin.toNat / 256 % 256 + 160) % 256) } }

/-- R155: DEC_TYPE, for every identifier: bits 7:0. -/
def Obligations.DecTypeResult : Prop :=
  ∀ s : State, exec .decType s = .next { s with out := { Outputs.zero with
    typout := BitVec.ofNat 8 (s.inp.idin.toNat % 256) } }

/-- R156: the identifier round trip, and the composer is injective on pairs of bytes. -/
def Obligations.IdentifierRoundTrip : Prop :=
  (∀ m t : Byte, moduleOfId (composeId m t) = m ∧ typeOfId (composeId m t) = t) ∧
  (∀ m t m' t' : Byte, composeId m t = composeId m' t' → m = m' ∧ t = t')

/-- R31: the identifiers CORE produces. No operation drives one with bits 31:17 other than zero; the
per-module ones lie in 0x6000 to 0x15FFF, and each pack builder drives its fixed value. -/
def Obligations.IdentifierRanges : Prop :=
  (∀ (i : Instr) (s t : State), exec i s = .next t → t.out.idout.extractLsb' 17 15 = 0) ∧
  (∀ (i : Instr) (s : State), i ∈ [.makeId, .bldBal, .bldCellv, .bldTemp] →
    ∃ t, exec i s = .next t ∧ 0x6000 ≤ t.out.idout.toNat ∧ t.out.idout.toNat ≤ 0x15FFF) ∧
  (∀ (i : Instr) (s : State) (id : Word),
    (i, id) ∈ [(.bldPack1, 0x8000#32), (.bldPack2, 0x8010#32), (.bldPack3, 0x8020#32)] →
    ∃ t, exec i s = .next t ∧ t.out.idout = id) ∧
  composeId 0x20 0x00 = 0x8000#32 ∧ composeId 0x20 0x10 = 0x8010#32 ∧ composeId 0x20 0x20 = 0x8020#32

/-! ### Frame builders -/

/-- R174: BLD_BAL, in both variants. -/
def Obligations.BldBalResult : Prop :=
  ∀ s : State, exec .bldBal s = .next (Claims.built s
    (0x6000 + Claims.sentModule s.variant s.inp.mod * 256 + 0x01)
    ⟨0xFF, 0xFF, Claims.byteAt s.inp.mask 24, Claims.byteAt s.inp.mask 16,
     Claims.byteAt s.inp.mask 8, Claims.byteAt s.inp.mask 0⟩)

/-- R175: BLD_CELLV, in both variants, for every group index. -/
def Obligations.BldCellvResult : Prop :=
  ∀ s : State, exec .bldCellv s = .next (Claims.built s
    (0x6000 + Claims.sentModule s.variant s.inp.mod * 256 + Claims.sentCellType s.variant s.inp.grp)
    ⟨Claims.cellLow s.inp.u0, Claims.cellHigh s.inp.u0, Claims.cellLow s.inp.u1,
     Claims.cellHigh s.inp.u1, Claims.cellLow s.inp.u2, Claims.cellHigh s.inp.u2⟩)

/-- R176: BLD_TEMP, in both variants, for every group index. -/
def Obligations.BldTempResult : Prop :=
  ∀ s : State, exec .bldTemp s = .next (Claims.built s
    (0x6000 + Claims.sentModule s.variant s.inp.mod * 256 + Claims.sentTempType s.inp.grp)
    ⟨Claims.tempByte s.inp.s0, Claims.tempByte s.inp.s1, Claims.tempByte s.inp.s2,
     Claims.tempByte s.inp.s3, Claims.tempByte s.inp.s4, Claims.tempByte s.inp.s5⟩)

/-- R177: BLD_PACK1; pack voltage plain, cell voltages by the cell-voltage codec. -/
def Obligations.BldPack1Result : Prop :=
  ∀ s : State, exec .bldPack1 s = .next (Claims.built s 0x8000
    ⟨Claims.high s.inp.u0, Claims.low s.inp.u0, Claims.cellLow s.inp.u1,
     Claims.cellHigh s.inp.u1, Claims.cellLow s.inp.u2, Claims.cellHigh s.inp.u2⟩)

/-- R178: BLD_PACK2; average cell voltage by the cell-voltage codec, indices plain. -/
def Obligations.BldPack2Result : Prop :=
  ∀ s : State, exec .bldPack2 s = .next (Claims.built s 0x8010
    ⟨Claims.cellLow s.inp.u0, Claims.cellHigh s.inp.u0, Claims.high s.inp.u1,
     Claims.low s.inp.u1, Claims.high s.inp.u2, Claims.low s.inp.u2⟩)

/-- R179: BLD_PACK3; three temperatures and padding. -/
def Obligations.BldPack3Result : Prop :=
  ∀ s : State, exec .bldPack3 s = .next (Claims.built s 0x8020
    ⟨Claims.tempByte s.inp.s0, Claims.tempByte s.inp.s1, Claims.tempByte s.inp.s2, 0xFF, 0xFF, 0xFF⟩)

/-- R170: every builder's frame carries the CRC of its data bytes, passes CRC_CHECK when the host offers it
to the same CORE, and no other output is driven. -/
def Obligations.BuilderFramesPassCrcCheck : Prop :=
  ∀ (i : Instr) (s : State),
    i ∈ [.bldBal, .bldCellv, .bldTemp, .bldPack1, .bldPack2, .bldPack3] →
    ∃ t u : State,
      exec i s = .next t ∧
      t.out = finish t.out.idout t.out.fout.payload ∧
      t.out.fout = t.out.fout.payload.withTrailer t.out.fout.payload.crc ∧
      t.out.crc = t.out.fout.payload.crc ∧
      step (t.offer (encodeOp .crcCheck) t.message) = .next u ∧
      u.out = { Outputs.zero with ok := true, crc := t.out.crc }

/-- R181: with legal inputs no per-module builder drives a pack identifier; SMALL groups 14 and 30 of cells
and group 15 of temperatures can. -/
def Obligations.LegalFramesAvoidPackIdentifiers : Prop :=
  (∀ (i : Instr) (s : State),
    i = .bldBal ∨ (i = .bldCellv ∧ legalCellGroup s.variant s.inp.grp = true) ∨
      (i = .bldTemp ∧ legalTempGroup s.variant s.inp.grp = true) →
    ∃ t, exec i s = .next t ∧ Claims.PerModuleId t.out.idout) ∧
  cellType .small 14 = 0x10#8 ∧ cellType .small 30 = 0x20#8 ∧ tempType 15 = 0x00#8 ∧
  (∀ (var : Variant) (m : Byte), offsetModule var m = 0x20#8 →
    composeId (offsetModule var m) (cellType .small 14) = 0x8010#32 ∧
    composeId (offsetModule var m) (cellType .small 30) = 0x8020#32 ∧
    composeId (offsetModule var m) (tempType 15) = 0x8000#32)

/-! ### Frame decoder -/

/-- R202: an invalid frame, whatever the identifier: `crc` is the computed CRC and every other output 0. -/
def Obligations.InvalidFrameDecodesNothing : Prop :=
  ∀ s : State, ¬ Claims.ValidFrame s.inp.fin →
    exec .decodeFrame s = .next { s with out := { Outputs.zero with
      crc := crc16 [s.inp.fin.b0, s.inp.fin.b1, s.inp.fin.b2, s.inp.fin.b3, s.inp.fin.b4, s.inp.fin.b5] } }

/-- R203 to R206: a valid frame under each of the three fixed identifiers, all 32 bits; `modout`, `typout`
and `grpout` stay 0. -/
def Obligations.PackFramesDecode : Prop :=
  ∀ s : State, Claims.ValidFrame s.inp.fin →
    let f := s.inp.fin
    let base : Outputs :=
      { Outputs.zero with ok := true, fout := f, crc := Claims.plainValue f.b6 f.b7 }
    (s.inp.idin = 0x8000#32 → exec .decodeFrame s = .next { s with out := { base with
      kind := 4, v0 := Claims.plainValue f.b0 f.b1, v1 := Claims.cellValue f.b2 f.b3,
      v2 := Claims.cellValue f.b4 f.b5 } }) ∧
    (s.inp.idin = 0x8010#32 → exec .decodeFrame s = .next { s with out := { base with
      kind := 5, v0 := Claims.cellValue f.b0 f.b1, v1 := Claims.plainValue f.b2 f.b3,
      v2 := Claims.plainValue f.b4 f.b5 } }) ∧
    (s.inp.idin = 0x8020#32 → exec .decodeFrame s = .next { s with out := { base with
      kind := 6, v0 := Claims.tempValue f.b0, v1 := Claims.tempValue f.b1,
      v2 := Claims.tempValue f.b2 } })

/-- R209, R208: a valid per-module frame of type 0x01, in both variants. -/
def Obligations.BalancingFramesDecode : Prop :=
  ∀ s : State, Claims.ValidFrame s.inp.fin → Claims.PerModuleId s.inp.idin →
    s.inp.idin.extractLsb' 0 8 = 0x01#8 →
    exec .decodeFrame s = .next { s with out := { Claims.moduleOutputs s 1 with
      maskout := BitVec.ofNat 32 (s.inp.fin.b2.toNat * 2 ^ 24 + s.inp.fin.b3.toNat * 2 ^ 16 +
        s.inp.fin.b4.toNat * 2 ^ 8 + s.inp.fin.b5.toNat) } }

/-- R210, R69: a valid per-module frame of a cell-voltage type of its variant (SMALL: 0x02 to 0x09; EXT: low
nibble 0x2 to 0xD, but not 0x0D). -/
def Obligations.CellVoltageFramesDecode : Prop :=
  ∀ (s : State) (lo hi : Nat), Claims.ValidFrame s.inp.fin → Claims.PerModuleId s.inp.idin →
    s.inp.idin.toNat % 256 = 16 * hi + lo → 2 ≤ lo → lo ≤ 13 →
    (match s.variant with
      | .small => hi = 0 ∧ lo ≤ 9
      | .ext => ¬ (hi = 0 ∧ lo = 13)) →
    exec .decodeFrame s = .next { s with out := { Claims.moduleOutputs s 2 with
      grpout := BitVec.ofNat 8 (hi * 12 + lo - 2)
      v0 := Claims.cellValue s.inp.fin.b0 s.inp.fin.b1
      v1 := Claims.cellValue s.inp.fin.b2 s.inp.fin.b3
      v2 := Claims.cellValue s.inp.fin.b4 s.inp.fin.b5 } }

/-- R211, R69: a valid per-module frame of a temperature type of its variant (0x0E and 0x0F, and in SMALL
0x0D too). -/
def Obligations.TemperatureFramesDecode : Prop :=
  ∀ (s : State) (g : Nat), Claims.ValidFrame s.inp.fin → Claims.PerModuleId s.inp.idin →
    s.inp.idin.toNat % 256 + g = 15 → g ≤ 2 → (s.variant = .ext → g ≤ 1) →
    exec .decodeFrame s = .next { s with out := { Claims.moduleOutputs s 3 with
      grpout := BitVec.ofNat 8 g
      v0 := Claims.tempValue s.inp.fin.b0
      v1 := Claims.tempValue s.inp.fin.b1
      v2 := Claims.tempValue s.inp.fin.b2
      v3 := Claims.tempValue s.inp.fin.b3
      v4 := Claims.tempValue s.inp.fin.b4
      v5 := Claims.tempValue s.inp.fin.b5 } }

/-- R212: in EXT, type 0x0D is passed through as K_AMBIG with no value decoded. -/
def Obligations.AmbiguousFramePassesThrough : Prop :=
  ∀ s : State, Claims.ValidFrame s.inp.fin → Claims.PerModuleId s.inp.idin → s.variant = .ext →
    s.inp.idin.extractLsb' 0 8 = 0x0D#8 →
    exec .decodeFrame s = .next { s with out := Claims.moduleOutputs s 7 }

/-- R213, R69: every other type of its variant is passed through as K_UNKNOWN with no value decoded. -/
def Obligations.UnknownTypePassesThrough : Prop :=
  ∀ (s : State) (t : Nat), Claims.ValidFrame s.inp.fin → Claims.PerModuleId s.inp.idin →
    t = s.inp.idin.toNat % 256 →
    (match s.variant with
      | .small => t = 0 ∨ (0x0A ≤ t ∧ t ≤ 0x0C) ∨ 0x10 ≤ t
      | .ext => t = 0 ∨ (0x10 ≤ t ∧ (t % 16 = 0 ∨ t % 16 = 1 ∨ t % 16 = 14 ∨ t % 16 = 15))) →
    exec .decodeFrame s = .next { s with out := Claims.moduleOutputs s 8 }

/-- R214: the padding of balancing-state and pack data 3 frames changes no kind and no value. -/
def Obligations.PaddingIsNotChecked : Prop :=
  ∀ (s t : State), Claims.ValidFrame s.inp.fin → Claims.ValidFrame t.inp.fin →
    s.variant = t.variant → s.inp.idin = t.inp.idin →
    (Claims.PerModuleId s.inp.idin ∧ s.inp.idin.extractLsb' 0 8 = 0x01#8 ∧
      s.inp.fin.b2 = t.inp.fin.b2 ∧ s.inp.fin.b3 = t.inp.fin.b3 ∧
      s.inp.fin.b4 = t.inp.fin.b4 ∧ s.inp.fin.b5 = t.inp.fin.b5) ∨
    (s.inp.idin = 0x8020#32 ∧ s.inp.fin.b0 = t.inp.fin.b0 ∧ s.inp.fin.b1 = t.inp.fin.b1 ∧
      s.inp.fin.b2 = t.inp.fin.b2) →
    ∃ u w : State, exec .decodeFrame s = .next u ∧ exec .decodeFrame t = .next w ∧
      u.out = { w.out with fout := s.inp.fin, crc := u.out.crc }

/-- R244: a reserved code wins over every input; a CRC mismatch wins over every identifier and message
type; a fixed identifier wins over the per-module scheme, which would read it as module 0x20. -/
def Obligations.DecoderPriorities : Prop :=
  (∀ (op : OpCode) (s : State), (decodeOp op).reserved = true →
    step { s with op := op } = .next { s with op := op, out := { Outputs.zero with badOp := true } }) ∧
  (∀ (s : State) (id id' : Word) (u w : State), ¬ Claims.ValidFrame s.inp.fin →
    exec .decodeFrame { s with inp := { s.inp with idin := id } } = .next u →
    exec .decodeFrame { s with inp := { s.inp with idin := id' } } = .next w →
    u.out = w.out ∧ u.out.ok = false ∧ u.out.kind = 0) ∧
  (∀ (s : State), Claims.ValidFrame s.inp.fin → ¬ Claims.PerModuleId s.inp.idin →
    ∃ u, exec .decodeFrame s = .next u ∧ u.out.ok = true ∧ 4 ≤ u.out.kind.toNat ∧ u.out.kind.toNat ≤ 6 ∧
      u.out.modout = 0 ∧ u.out.typout = 0 ∧ u.out.grpout = 0 ∧ moduleOfId s.inp.idin = 0x20#8) ∧
  (∀ (s : State), Claims.ValidFrame s.inp.fin → Claims.PerModuleId s.inp.idin →
    ∃ u, exec .decodeFrame s = .next u ∧ u.out.ok = true ∧
      u.out.kind = (classify s.variant (typeOfId s.inp.idin)).1.code ∧
      u.out.modout = moduleOfId s.inp.idin ∧ u.out.typout = typeOfId s.inp.idin)

/-- R215: for every builder and every legal input, DECODE_FRAME of the builder's identifier and frame, in the
same CORE, gives the builder's kind, frame, module field, type, group and values. -/
def Obligations.BuilderDecoderRoundTrip : Prop :=
  ∀ s : State,
    let om := offsetModule s.variant s.inp.mod
    let sealed (t : State) (k : KindCode) : Outputs :=
      { Outputs.zero with ok := true, kind := k, fout := t.out.fout, crc := t.out.crc }
    let received (t : State) (o : Outputs) : Prop :=
      ∃ u, step (t.offer (encodeOp .decodeFrame) t.message) = .next u ∧ u.out = o
    (legalModule s.variant s.inp.mod = true →
      ∃ t, exec .bldBal s = .next t ∧ received t { sealed t 1 with
        modout := om, typout := 0x01#8, maskout := s.inp.mask }) ∧
    (legalModule s.variant s.inp.mod = true → legalCellGroup s.variant s.inp.grp = true →
      legalCellVoltage s.inp.u0 = true → legalCellVoltage s.inp.u1 = true →
      legalCellVoltage s.inp.u2 = true →
      ∃ t, exec .bldCellv s = .next t ∧ received t { sealed t 2 with
        modout := om, typout := cellType s.variant s.inp.grp, grpout := s.inp.grp,
        v0 := s.inp.u0, v1 := s.inp.u1, v2 := s.inp.u2 }) ∧
    (legalModule s.variant s.inp.mod = true → legalTempGroup s.variant s.inp.grp = true →
      legalTemp s.inp.s0 = true → legalTemp s.inp.s1 = true → legalTemp s.inp.s2 = true →
      legalTemp s.inp.s3 = true → legalTemp s.inp.s4 = true → legalTemp s.inp.s5 = true →
      ∃ t, exec .bldTemp s = .next t ∧ received t { sealed t 3 with
        modout := om, typout := tempType s.inp.grp, grpout := s.inp.grp,
        v0 := s.inp.s0, v1 := s.inp.s1, v2 := s.inp.s2,
        v3 := s.inp.s3, v4 := s.inp.s4, v5 := s.inp.s5 }) ∧
    (legalCellVoltage s.inp.u1 = true → legalCellVoltage s.inp.u2 = true →
      ∃ t, exec .bldPack1 s = .next t ∧ received t { sealed t 4 with
        v0 := s.inp.u0, v1 := s.inp.u1, v2 := s.inp.u2 }) ∧
    (legalCellVoltage s.inp.u0 = true →
      ∃ t, exec .bldPack2 s = .next t ∧ received t { sealed t 5 with
        v0 := s.inp.u0, v1 := s.inp.u1, v2 := s.inp.u2 }) ∧
    (legalTemp s.inp.s0 = true → legalTemp s.inp.s1 = true → legalTemp s.inp.s2 = true →
      ∃ t, exec .bldPack3 s = .next t ∧ received t { sealed t 6 with
        v0 := s.inp.s0, v1 := s.inp.s1, v2 := s.inp.s2 })

/-- R216: the module offset is not undone. DECODE_FRAME reports the identifier's module field, which in EXT
is the builder's module number plus one, modulo 256. -/
def Obligations.ModuleOffsetIsNotUndone : Prop :=
  (∀ (s : State), Claims.ValidFrame s.inp.fin → Claims.PerModuleId s.inp.idin →
    ∃ u, exec .decodeFrame s = .next u ∧ u.out.modout = moduleOfId s.inp.idin) ∧
  (∀ (s : State), s.variant = .ext →
    ∃ t u, exec .bldBal s = .next t ∧
      step (t.offer (encodeOp .decodeFrame) t.message) = .next u ∧
      u.out.modout.toNat = (s.inp.mod.toNat + 1) % 256)

/-- R70: the kind codes 0 to 8 name nine classes, one each; codes 9 to 15 name none and are never driven. -/
def Obligations.KindCodesAreNamed : Prop :=
  ([Kind.invalid, .bal, .cellv, .temp, .pack1, .pack2, .pack3, .ambig, .unknown].map
    (fun k => k.code.toNat) = [0, 1, 2, 3, 4, 5, 6, 7, 8]) ∧
  (∀ k : Kind, Kind.ofCode k.code = some k) ∧
  (∀ c : KindCode, 9 ≤ c.toNat → Kind.ofCode c = none) ∧
  (∀ (i : Instr) (s t : State), exec i s = .next t → t.out.kind.toNat ≤ 8)

/-! ### Whole-machine rules -/

/-- R20: what a step drives is a function of VARIANT, `op` and the input ports alone; no earlier output
survives into it, and it changes neither VARIANT nor an input port. -/
def Obligations.NoStateSurvivesAnEvaluation : Prop :=
  ∀ s : State,
    step s = .next { s with out := transfer s.variant s.evaluation } ∧
    ∀ t : State, t.variant = s.variant → t.op = s.op → t.inp = s.inp →
      step t = .next { t with out := transfer s.variant s.evaluation }

/-- R65, "reads": an operation's outputs depend on the ports it reads and on no other. -/
def Obligations.OutputsDependOnlyOnReadPorts : Prop :=
  ∀ (i : Instr) (s t u w : State), readsAgree i s t → exec i s = .next u → exec i t = .next w →
    u.out = w.out

/-- R65, "drives": every output that an operation's rule does not drive is 0. -/
def Obligations.UndrivenOutputsAreZero : Prop :=
  ∀ (i : Instr) (s : State), ∃ t, exec i s = .next t ∧ drivesOnly i t.out ∧
    t.variant = s.variant ∧ t.op = s.op ∧ t.inp = s.inp

/-- R48: the results of a sequence of evaluations are the results of each one alone, whatever CORE's
outputs held before. -/
def Obligations.EvaluationsAreIndependent : Prop :=
  ∀ (es : List Evaluation) (s : State), ∃ t : State,
    runEvaluations es s = .next (t, es.map (transfer s.variant)) ∧ t.variant = s.variant

/-- R24: no host run of presentations, evaluations, copies and resets changes VARIANT. -/
def Obligations.VariantIsStatic : Prop :=
  ∀ (ms : List HostMove) (s t : State), hostRun ms s = .next t → t.variant = s.variant

/-- Every step keeps the invariant `State.Sound`. -/
def Obligations.StepKeepsSound : Prop :=
  ∀ s t : State, s.Sound → step s = .next t → t.Sound

/-- The invariant holds right after reset. The input ports' zeros are the start state of
spec/95_test_vectors.md section 3 (notes/assumptions/2.md). -/
def Obligations.ResetIsSound : Prop := State.reset.Sound

/-- R262 as notes/assumptions/3.md reads it: after reset every output is 0, the output of NOP; VARIANT is not
changed, and an earlier result is gone. -/
def Obligations.ResetShowsNopOutputs : Prop :=
  State.reset.out = Outputs.zero ∧
  ∀ s : State, s.afterReset.out = Outputs.zero ∧ s.afterReset.variant = s.variant ∧
    exec .nop s = .next s.afterReset

/-! ### Clocked CORE -/

/-- R265 and R269: with the inputs held for LATENCY clocks, whatever came before, the outputs are those of
one step on these inputs, for every op code alike. -/
def Obligations.StableInputsSettle : Prop :=
  ∀ (latency n : Nat) (c : Clocked) (e : Evaluation) (t : State), latency ≤ n →
    step ((State.resetWith c.variant).present e) = .next t →
    ((c.present e).ticks latency n).outputs latency = t.out

/-- R262, R265, R269: a registered CORE shows zeros from reset until its first evaluation completes, whatever
the host presents meanwhile, and the evaluation in progress at reset is lost. That inputs held through the
reset, with no new presentation, settle LATENCY clocks counted from the reset is the model's reading (its count
of stable clocks, notes/assumptions/8.md and 13.md, and DESIGN CHOICE, 14.md): D10 has the host present the
inputs again after reset. -/
def Obligations.ZerosUntilFirstEvaluation : Prop :=
  ∀ (latency n : Nat) (c : Clocked) (e : Evaluation), n < latency →
    (c.reset.ticks latency n).outputs latency = Outputs.zero ∧
    ∀ m, m < latency →
      (((c.reset.ticks latency n).present e).ticks latency m).outputs latency =
        if e = c.inputs ∧ latency ≤ n + m then transfer c.variant e else Outputs.zero

/-- R261: a combinational CORE always shows the transfer function of its inputs. -/
def Obligations.CombinationalOutputsFollowInputs : Prop :=
  ∀ (c : Clocked) (e : Evaluation), c.outputs 0 = transfer c.variant c.inputs ∧
    (c.present e).outputs 0 = transfer c.variant e ∧
    c.reset.outputs 0 = transfer c.variant c.inputs

/-! ### Frames and lines -/

/-- R42: the flat 64-bit form; byte i stands in bits `63 - 8i` down to `56 - 8i`, and nothing is lost either
way. -/
def Obligations.FlatFormRoundTrips : Prop :=
  (∀ f : Frame, Frame.ofFlat f.flat = f) ∧
  (∀ w : BitVec 64, (Frame.ofFlat w).flat = w) ∧
  (∀ (f : Frame) (i : Fin 8), f.bytes[i.val]? = some (f.flat.extractLsb' (56 - 8 * i.val) 8))

/-- R71: the line that writes every port of an evaluation is well formed and assembles to that evaluation,
for every op code and every value of every port. -/
def Obligations.AssembleDisassemble : Prop :=
  ∀ e : Evaluation, (disassemble e).wf = true ∧ assemble (disassemble e) = .ok e

/-- R72: a pseudo-operation assembles to the operation it expands to, with the same ports. -/
def Obligations.PseudoOperationsExpand : Prop :=
  ∀ (p : Pseudo) (i : Instr) (as : List Assign),
    (p, i) ∈ [(Pseudo.encCidx, Instr.encU16), (.encPackv, .encU16), (.decCidx, .decU16),
      (.decPackv, .decU16), (.isValid, .crcCheck), (.crc16, .crcGen)] →
    assemble ⟨.pseudo p, as⟩ = assemble ⟨.core i, as⟩ ∧ pseudoExpansion p = i

/-- I1 of spec/93_implementation_defined.md with notes/assumptions/9.md: the host side refuses exactly the
lines that are not well formed, by name, and presents every other as the evaluation it assembles to, all ports
at once; a value its port cannot carry is never wrapped. Two clauses rest on the model's choice (log entry 9):
that a port given twice makes a line ill formed, and, in the last clause, that an `s` port takes 32768 to 65535
as 16-bit patterns. -/
def Obligations.OnlyIllFormedLinesRefused : Prop :=
  (∀ (l : Line) (s : State), l.wf = true →
    ∃ e, assemble l = .ok e ∧ hostStep (.line l) s = .next (s.present e)) ∧
  (∀ (l : Line) (s : State), l.wf = false →
    ∃ r, l.reject = some r ∧ hostStep (.line l) s = .refused (.lineRejected r)) ∧
  (∀ (n : OpName) (p : NumPort) (v : Int), 2 ^ p.width ≤ v →
    (⟨n, [.num p v]⟩ : Line).reject = some (.valueTooWide p)) ∧
  (∀ (n : OpName) (p : NumPort) (v : Int), 0 ≤ v → v < 2 ^ p.width →
    ∃ e, assemble ⟨n, [.num p v]⟩ = .ok e ∧ e.op = encodeOp (opOfName n))
end

