-- ==== Sys2Proof/Laws/Crc.lean ====
section
/-! SUPPORT. The CRC register under XOR, and the frame's data bytes and trailer under sealing and errors. -/

namespace Sys2Proof.Machine

theorem crcStep_xor (a b : Half) : crcStep (a ^^^ b) = crcStep a ^^^ crcStep b := by
  unfold crcStep
  rw [BitVec.getLsbD_xor, BitVec.shiftLeft_xor_distrib]
  cases a.getLsbD 15 <;> cases b.getLsbD 15 <;>
    (simp [BitVec.xor_assoc, BitVec.xor_comm]; try ac_nf)

theorem crcSteps_xor (n : Nat) (a b : Half) : crcSteps n (a ^^^ b) = crcSteps n a ^^^ crcSteps n b := by
  induction n generalizing a b with
  | zero => rfl
  | succ n ih => simp only [crcSteps, crcStep_xor, ih]

/-- One byte step is additive in the register and the byte together. -/
theorem crcByte_xor (a b : Half) (x y : Byte) :
    crcByte (a ^^^ b) (x ^^^ y) = crcByte a x ^^^ crcByte b y := by
  unfold crcByte
  rw [← crcSteps_xor, BitVec.setWidth_xor, BitVec.shiftLeft_xor_distrib]
  congr 1
  ac_nf

theorem crc16_append (bs : List Byte) (b : Byte) : crc16 (bs ++ [b]) = crcByte (crc16 bs) b := by
  simp [crc16]

@[simp] theorem Payload.withTrailer_payload (p : Payload) (c : Half) : (p.withTrailer c).payload = p := rfl

@[simp] theorem Payload.withTrailer_trailer (p : Payload) (c : Half) : (p.withTrailer c).trailer = c := by
  simp only [Payload.withTrailer, Frame.trailer]
  apply BitVec.eq_of_getLsbD_eq
  intro i hi
  rw [BitVec.getLsbD_append]
  split
  · simp [*]
  · rw [BitVec.getLsbD_extractLsb', decide_eq_true (by omega : i - 8 < 8), Bool.true_and]
    congr 1
    omega

@[simp] theorem Payload.withTrailer_crcOk (p : Payload) : (p.withTrailer p.crc).crcOk = true := by
  simp [Frame.crcOk]

theorem Frame.crcOk_iff (f : Frame) : f.crcOk = true ↔ f.payload.crc = f.trailer := by
  simp [Frame.crcOk]

@[simp] theorem Frame.xor_payload (f e : Frame) : (f.xor e).payload = f.payload.xor e.payload := rfl

@[simp] theorem Frame.xor_trailer (f e : Frame) : (f.xor e).trailer = f.trailer ^^^ e.trailer := by
  simp only [Frame.xor, Frame.trailer]
  apply BitVec.eq_of_getLsbD_eq
  intro i hi
  simp only [BitVec.getLsbD_append, BitVec.getLsbD_xor]
  split <;> rfl

end Sys2Proof.Machine
end

