-- ==== Sys2Proof/Laws/Fields.lean ====
section
/-! SUPPORT. One lemma per field function: its arithmetic form (Sys2Proof.Claims). -/

namespace Sys2Proof.Machine

theorem loByte_eq (v : Half) : loByte v = Claims.low v := by
  apply BitVec.eq_of_toNat_eq
  simp [loByte, Claims.low]

theorem hiByte_eq (v : Half) : hiByte v = Claims.high v := by
  apply BitVec.eq_of_toNat_eq
  simp [hiByte, Claims.high, Nat.shiftRight_eq_div_pow]

theorem encCV_eq (v : Half) : encCV v = (Claims.cellLow v, Claims.cellHigh v) := by
  have h : v.toNat / 256 % 64 % 256 = v.toNat / 256 % 64 := by omega
  refine Prod.ext (loByte_eq v) (BitVec.eq_of_toNat_eq ?_)
  simp [encCV, Claims.cellHigh, Nat.shiftRight_eq_div_pow]
  
theorem encU16_eq (v : Half) : encU16 v = (Claims.high v, Claims.low v) :=
  Prod.ext (hiByte_eq v) (loByte_eq v)

theorem and_3F_toNat (b : Byte) : (b &&& 0x3F#8).toNat = b.toNat % 64 := by
  rw [BitVec.toNat_and]
  exact Nat.and_two_pow_sub_one_eq_mod b.toNat 6

theorem decCV_eq (a b : Byte) : decCV a b = Claims.cellValue a b := by
  rw [decCV, and_3F_toNat, Claims.cellValue]

theorem append_toNat (a b : Byte) : (a ++ b : Half).toNat = a.toNat * 256 + b.toNat := by
  rw [BitVec.toNat_append, ← Nat.shiftLeft_add_eq_or_of_lt b.isLt, Nat.shiftLeft_eq]

theorem decU16_eq (a b : Byte) : decU16 a b = Claims.plainValue a b := by
  apply BitVec.eq_of_toNat_eq
  have := a.isLt
  have := b.isLt
  simp only [decU16, append_toNat, Claims.plainValue, BitVec.toNat_ofNat]
  omega

/-- The clamp of R9 on the byte range. -/
theorem clamp_byte (x : Int) : clamp x 0 255 = ((min 255 x.toNat : Nat) : Int) := by
  unfold clamp
  split
  · omega
  · split <;> omega

theorem encT_eq (s : Half) : encT s = Claims.tempByte s := by
  rw [encT, clamp_byte]
  exact BitVec.ofInt_natCast 8 _

theorem decT_eq (e : Byte) : decT e = Claims.tempValue e := by
  apply BitVec.eq_of_toNat_eq
  have := e.isLt
  simp only [decT, Claims.tempValue, BitVec.toNat_ofInt, BitVec.toNat_sub, BitVec.toNat_setWidth,
    BitVec.toNat_ofNat]
  omega

theorem trailer_eq (f : Frame) : f.trailer = Claims.plainValue f.b6 f.b7 := decU16_eq f.b6 f.b7

/-- The `ok` computation and the claims' word for it. -/
theorem crcOk_iff_valid (f : Frame) : f.crcOk = true ↔ Claims.ValidFrame f := by
  simp only [Frame.crcOk, beq_iff_eq, trailer_eq]
  rfl

theorem offsetModule_toNat (var : Variant) (m : Byte) :
    (offsetModule var m).toNat = Claims.sentModule var m := by
  cases var <;> simp [offsetModule, Claims.sentModule]

theorem cellType_toNat (var : Variant) (g : Byte) :
    (cellType var g).toNat = Claims.sentCellType var g := by
  cases var <;> simp [cellType, Claims.sentCellType, Nat.shiftLeft_eq, Nat.mul_comm]

theorem tempType_toNat (g : Byte) : (tempType g).toNat = Claims.sentTempType g := by
  have := g.isLt
  simp only [tempType, Claims.sentTempType, BitVec.toNat_ofInt]
  omega

theorem composeId_toNat (m t : Byte) : (composeId m t).toNat = 0x6000 + m.toNat * 256 + t.toNat := by
  have := m.isLt
  have := t.isLt
  simp only [composeId, BitVec.toNat_ofNat]
  omega

/-- The module decomposer by fields (spec/42_identifier.md R151, second form). -/
theorem moduleOfId_eq (i : Word) : moduleOfId i = i.extractLsb' 8 8 - 0x60#8 := by
  apply BitVec.eq_of_toNat_eq
  have h : (i &&& 0xFF00#32).toNat = i.toNat / 256 % 256 * 256 := by
    have e : i &&& 0xFF00#32 = (i.extractLsb' 8 8).setWidth 32 <<< 8 := by
      apply BitVec.eq_of_getLsbD_eq
      intro k hk
      have hc : ∀ k < 32, (0xFF00#32).getLsbD k = (decide (8 ≤ k) && decide (k < 16)) := by decide
      rw [BitVec.getLsbD_and, hc k hk]
      by_cases h8 : k < 8
      · simp [h8, Nat.not_le.mpr h8]
      · have h8' : 8 ≤ k := by omega
        by_cases h16 : k < 16
        · have : k - 8 < 8 := by omega
          have : 8 + (k - 8) = k := by omega
          simp [*]
        · have : ¬ k - 8 < 8 := by omega
          simp [*]
    rw [e]
    simp only [BitVec.toNat_shiftLeft, BitVec.toNat_setWidth, BitVec.extractLsb'_toNat,
      Nat.shiftRight_eq_div_pow, Nat.shiftLeft_eq]
    omega
  simp only [moduleOfId, BitVec.toNat_setWidth, BitVec.toNat_ushiftRight, BitVec.toNat_sub, h,
    BitVec.extractLsb'_toNat, Nat.shiftRight_eq_div_pow, BitVec.toNat_ofNat]
  have := i.isLt
  omega

/-- The type decomposer by fields (R152). -/
theorem typeOfId_eq (i : Word) : typeOfId i = i.extractLsb' 0 8 := by
  apply BitVec.eq_of_toNat_eq
  have h : (i &&& 0x00FF#32).toNat = i.toNat % 256 := by
    rw [BitVec.toNat_and]
    exact Nat.and_two_pow_sub_one_eq_mod i.toNat 8
  simp only [typeOfId, BitVec.toNat_setWidth, h, BitVec.extractLsb'_toNat, Nat.shiftRight_zero]
  omega

theorem wordBytes_eq (m : Word) :
    wordBytes m = (Claims.byteAt m 24, Claims.byteAt m 16, Claims.byteAt m 8, Claims.byteAt m 0) := by
  simp only [wordBytes, Claims.byteAt, Prod.mk.injEq]
  refine ⟨?_, ?_, ?_, ?_⟩ <;> apply BitVec.eq_of_toNat_eq <;>
    simp [Nat.shiftRight_eq_div_pow]

/-- The whole state a builder leaves, in the claims' words. -/
theorem drive_finish (s : State) (id : Word) (p : Payload) :
    s.drive (finish id p) = .next (Claims.built s id.toNat p) := by
  simp only [State.drive, finish, Claims.built, Payload.withTrailer, ← hiByte_eq, ← loByte_eq,
    BitVec.ofNat_toNat, BitVec.setWidth_eq]
  rfl

end Sys2Proof.Machine
end

