-- ==== Sys2Proof/Laws/FrameDecoder.lean ====
section
/-! SUPPORT. Everything DECODE_FRAME's output function can do, one lemma per branch of R200, and what the
classification of message types can answer. -/

namespace Sys2Proof.Machine

/-- The CRC gate (spec/44_frame_decoder.md R201, R202). -/
theorem decodeFrameOutputs_invalid {f : Frame} (h : f.crcOk = false) (var : Variant) (id : Word) :
    decodeFrameOutputs var id f = { Outputs.zero with crc := f.payload.crc } := by
  simp only [decodeFrameOutputs, h]
  rfl

/-- A valid frame under an identifier that is none of the three fixed ones (R207, R208). -/
theorem decodeFrameOutputs_module {f : Frame} {id : Word} (h : f.crcOk = true)
    (h1 : id ≠ pack1Id) (h2 : id ≠ pack2Id) (h3 : id ≠ pack3Id) (var : Variant) :
    decodeFrameOutputs var id f =
      decodeModuleFrame var id f { Outputs.zero with crc := f.payload.crc, ok := true, fout := f } := by
  simp only [decodeFrameOutputs, h, if_true, h1, h2, h3, if_false]

/-- The values of a kind change neither the kind nor the identifier's fields. -/
theorem moduleValues_keeps (k : Kind) (g : Byte) (f : Frame) (o : Outputs) :
    (moduleValues k g f o).ok = o.ok ∧ (moduleValues k g f o).kind = o.kind ∧
      (moduleValues k g f o).modout = o.modout ∧ (moduleValues k g f o).typout = o.typout ∧
      (moduleValues k g f o).fout = o.fout ∧ (moduleValues k g f o).crc = o.crc ∧
      (moduleValues k g f o).idout = o.idout ∧ (moduleValues k g f o).badOp = o.badOp := by
  cases k <;> exact ⟨rfl, rfl, rfl, rfl, rfl, rfl, rfl, rfl⟩

/-- The kinds a message type can stand for (R208). -/
theorem classify_kind (var : Variant) (t : Byte) :
    (classify var t).1 = .bal ∨ (classify var t).1 = .cellv ∨ (classify var t).1 = .temp ∨
      (classify var t).1 = .ambig ∨ (classify var t).1 = .unknown := by
  unfold classify
  cases var <;> simp only <;> repeat' split
  all_goals simp

end Sys2Proof.Machine
end

