-- ==== Sys2Proof/Laws/PerInstr.lean ====
section
/-! SUPPORT. One lemma per constructor of Instr, for statements about an operation as syntax. -/

namespace Sys2Proof.Laws.OneByte

/-- Every operation has the same length, one word of 5 bits (spec/30_encoding.md R60): one byte whose bits
7:5 are zero, and whose value is the operation's code. -/
def Statement (i : Sys2Proof.Instr) : Prop :=
  ∃ b : Sys2Proof.Byte, Sys2Proof.encode i = [b] ∧ b.toNat < 32 ∧ b.toNat = (Sys2Proof.encodeOp i).toNat

theorem nop : Statement .nop := ⟨_, rfl, by decide, by decide⟩
theorem crcGen : Statement .crcGen := ⟨_, rfl, by decide, by decide⟩
theorem crcCheck : Statement .crcCheck := ⟨_, rfl, by decide, by decide⟩
theorem encCellv : Statement .encCellv := ⟨_, rfl, by decide, by decide⟩
theorem decCellv : Statement .decCellv := ⟨_, rfl, by decide, by decide⟩
theorem encU16 : Statement .encU16 := ⟨_, rfl, by decide, by decide⟩
theorem decU16 : Statement .decU16 := ⟨_, rfl, by decide, by decide⟩
theorem encTemp : Statement .encTemp := ⟨_, rfl, by decide, by decide⟩
theorem decTemp : Statement .decTemp := ⟨_, rfl, by decide, by decide⟩
theorem makeId : Statement .makeId := ⟨_, rfl, by decide, by decide⟩
theorem decMod : Statement .decMod := ⟨_, rfl, by decide, by decide⟩
theorem decType : Statement .decType := ⟨_, rfl, by decide, by decide⟩
theorem reserved0C : Statement .reserved0C := ⟨_, rfl, by decide, by decide⟩
theorem reserved0D : Statement .reserved0D := ⟨_, rfl, by decide, by decide⟩
theorem reserved0E : Statement .reserved0E := ⟨_, rfl, by decide, by decide⟩
theorem reserved0F : Statement .reserved0F := ⟨_, rfl, by decide, by decide⟩
theorem bldBal : Statement .bldBal := ⟨_, rfl, by decide, by decide⟩
theorem bldCellv : Statement .bldCellv := ⟨_, rfl, by decide, by decide⟩
theorem bldTemp : Statement .bldTemp := ⟨_, rfl, by decide, by decide⟩
theorem bldPack1 : Statement .bldPack1 := ⟨_, rfl, by decide, by decide⟩
theorem bldPack2 : Statement .bldPack2 := ⟨_, rfl, by decide, by decide⟩
theorem bldPack3 : Statement .bldPack3 := ⟨_, rfl, by decide, by decide⟩
theorem reserved16 : Statement .reserved16 := ⟨_, rfl, by decide, by decide⟩
theorem reserved17 : Statement .reserved17 := ⟨_, rfl, by decide, by decide⟩
theorem decodeFrame : Statement .decodeFrame := ⟨_, rfl, by decide, by decide⟩
theorem reserved19 : Statement .reserved19 := ⟨_, rfl, by decide, by decide⟩
theorem reserved1A : Statement .reserved1A := ⟨_, rfl, by decide, by decide⟩
theorem reserved1B : Statement .reserved1B := ⟨_, rfl, by decide, by decide⟩
theorem reserved1C : Statement .reserved1C := ⟨_, rfl, by decide, by decide⟩
theorem reserved1D : Statement .reserved1D := ⟨_, rfl, by decide, by decide⟩
theorem reserved1E : Statement .reserved1E := ⟨_, rfl, by decide, by decide⟩
theorem reserved1F : Statement .reserved1F := ⟨_, rfl, by decide, by decide⟩

end Sys2Proof.Laws.OneByte
end

