-- ==== Sys2Proof/Laws/State.lean ====
section
/-! SUPPORT. One lemma per field of State for each operation that updates it, and the one lemma about
`drive`: it answers a next state in which only the outputs differ. -/

namespace Sys2Proof.Machine

theorem State.drive_eq (s : State) (o : Outputs) : s.drive o = .next { s with out := o } := rfl

/-- Everything `drive` can do. -/
theorem State.drive_next {s t : State} {o : Outputs} :
    s.drive o = .next t ↔ t = { s with out := o } := by
  rw [State.drive_eq]
  exact ⟨fun h => (Host.Outcome.next.inj h).symm, fun h => h ▸ rfl⟩

@[simp] theorem State.present_variant (s : State) (e : Evaluation) : (s.present e).variant = s.variant := rfl
@[simp] theorem State.present_op (s : State) (e : Evaluation) : (s.present e).op = e.op := rfl
@[simp] theorem State.present_inp (s : State) (e : Evaluation) : (s.present e).inp = e.inp := rfl
@[simp] theorem State.present_out (s : State) (e : Evaluation) : (s.present e).out = s.out := rfl
@[simp] theorem State.present_evaluation (s : State) (e : Evaluation) : (s.present e).evaluation = e := rfl

@[simp] theorem State.offer_variant (s : State) (i : OpCode) (m : Message) :
    (s.offer i m).variant = s.variant := rfl
@[simp] theorem State.offer_op (s : State) (i : OpCode) (m : Message) : (s.offer i m).op = i := rfl
@[simp] theorem State.offer_idin (s : State) (i : OpCode) (m : Message) :
    (s.offer i m).inp.idin = m.identifier := rfl
@[simp] theorem State.offer_fin (s : State) (i : OpCode) (m : Message) :
    (s.offer i m).inp.fin = m.frame := rfl
@[simp] theorem State.offer_out (s : State) (i : OpCode) (m : Message) : (s.offer i m).out = s.out := rfl

@[simp] theorem State.message_identifier (s : State) : s.message.identifier = s.out.idout := rfl
@[simp] theorem State.message_frame (s : State) : s.message.frame = s.out.fout := rfl

@[simp] theorem State.afterReset_variant (s : State) : s.afterReset.variant = s.variant := rfl
@[simp] theorem State.afterReset_op (s : State) : s.afterReset.op = s.op := rfl
@[simp] theorem State.afterReset_inp (s : State) : s.afterReset.inp = s.inp := rfl
@[simp] theorem State.afterReset_out (s : State) : s.afterReset.out = Outputs.zero := rfl

@[simp] theorem State.withFetchWord_variant (s : State) (n w : Nat) :
    (s.withFetchWord n w).variant = s.variant := rfl
@[simp] theorem State.withFetchWord_op (s : State) (n w : Nat) :
    (s.withFetchWord n w).op = BitVec.ofNat 5 w := rfl
@[simp] theorem State.withFetchWord_inp (s : State) (n w : Nat) : (s.withFetchWord n w).inp = s.inp := rfl
@[simp] theorem State.withFetchWord_out (s : State) (n w : Nat) : (s.withFetchWord n w).out = s.out := rfl

@[simp] theorem State.resetWith_variant (v : Variant) : (State.resetWith v).variant = v := rfl
@[simp] theorem State.resetWith_inp (v : Variant) : (State.resetWith v).inp = Inputs.zero := rfl
@[simp] theorem State.resetWith_out (v : Variant) : (State.resetWith v).out = Outputs.zero := rfl

@[simp] theorem State.fetch_eq (s : State) : s.fetch = s.op := rfl

/-- Everything an operation can do: it answers a next state in which only the outputs differ. -/
theorem exec_drives (i : Instr) (s : State) : ∃ o : Outputs, exec i s = .next { s with out := o } := by
  cases i <;> exact ⟨_, rfl⟩

/-- What holds of any next state: VARIANT and every input port are as they were. -/
theorem exec_frame {i : Instr} {s t : State} (h : exec i s = .next t) :
    t.variant = s.variant ∧ t.op = s.op ∧ t.inp = s.inp := by
  obtain ⟨o, ho⟩ := exec_drives i s
  obtain rfl := Host.Outcome.next.inj (ho.symm.trans h)
  exact ⟨rfl, rfl, rfl⟩

/-- An operation's outputs do not depend on what the output ports held before. -/
theorem exec_forgets_outputs (i : Instr) (s : State) (o : Outputs) :
    ∃ o' : Outputs, exec i s = .next { s with out := o' } ∧
      exec i { s with out := o } = .next { s with out := o' } := by
  cases i <;> exact ⟨_, rfl, rfl⟩

end Sys2Proof.Machine
end

