-- ==== Sys2Proof/Tests/Slice0.lean ====
section
/-! SUPPORT. The model's own tests. Expected results come from the spec: the worked examples of the 4N
files and the vectors of spec/95_test_vectors.md (named in each comment), and the encodings of
spec/30_encoding.md. The last part shows that the hypotheses of the statements can be met. -/

namespace Sys2Proof.Tests

open Sys2Proof.Machine

-- The evaluation of a CRC by `decide` nests deeper than the default allows.
set_option maxRecDepth 20000

/-- The outputs of one evaluation written as a line of R71. -/
def run (var : Variant) (line : String) : Option Outputs :=
  match assembleText line with
  | .ok e => some (transfer var e)
  | .error _ => none

/-- Why a line is turned away. -/
def rejected (line : String) : Option LineReject :=
  match assembleText line with
  | .ok _ => none
  | .error r => some r

/-- A state that presents an identifier and a frame. -/
def holding (var : Variant) (id : Word) (f : Frame) : State :=
  { State.resetWith var with inp := { Inputs.zero with idin := id, fin := f } }

/-- The balancing-state frame of V-CRC-07. -/
def balFrame : Frame := ⟨0xFF, 0xFF, 0x00, 0x00, 0x00, 0x2A, 0x85, 0x28⟩

/-- The frame of V-CRC-15. -/
def countFrame : Frame := ⟨0x01, 0x02, 0x03, 0x04, 0x05, 0x06, 0xD7, 0x1C⟩

/-! ### Well-formedness: one ill-formed line for each check -/

theorem test_wf_refuses_wide_value : (⟨.core .makeId, [.num .mod 256]⟩ : Line).wf = false := by decide
theorem test_wf_refuses_negative_unsigned : (⟨.core .makeId, [.num .mod (-1)]⟩ : Line).wf = false := by decide
theorem test_wf_refuses_low_temperature : (⟨.core .encTemp, [.num .s0 (-32769)]⟩ : Line).wf = false := by decide
theorem test_wf_refuses_short_frame : (⟨.core .crcGen, [.fin [1, 2, 3]]⟩ : Line).wf = false := by decide
theorem test_wf_refuses_wide_byte :
    (⟨.core .crcGen, [.fin [256, 0, 0, 0, 0, 0, 0, 0]]⟩ : Line).wf = false := by decide
theorem test_wf_refuses_port_twice :
    (⟨.core .encU16, [.num .u0 1, .num .u0 1]⟩ : Line).wf = false := by decide
theorem test_wf_takes_port_ends :
    (⟨.core .encTemp, [.num .s0 (-32768), .num .mod 255, .num .mask 0xFFFFFFFF]⟩ : Line).wf = true := by decide

/-! ### Decoding: words written out from R61's codes, bits 4 down to 0 -/

theorem test_decode_nop : decodeTableWord 8 0b00000 = some .nop := by decide
theorem test_decode_crc_check : decodeTableWord 8 0b00010 = some .crcCheck := by decide
theorem test_decode_enc_temp : decodeTableWord 8 0b00111 = some .encTemp := by decide
theorem test_decode_make_id : decodeTableWord 8 0b01001 = some .makeId := by decide
theorem test_decode_reserved : decodeTableWord 8 0b01111 = some .reserved0F := by decide
theorem test_decode_bld_pack3 : decodeTableWord 8 0b10101 = some .bldPack3 := by decide
theorem test_decode_decode_frame : decodeTableWord 8 0b11000 = some .decodeFrame := by decide
theorem test_decode_refuses_wide : decodeTableWord 8 0b00100001 = none := by decide

/-! ### The operations -/

/-- V-CTL-02. -/
theorem test_nop : run .small "NOP mod=5, fin=FF FF FF FF FF FF FF FF" = some Outputs.zero := by
  decide
/-- V-CTL-04, 0x1F. -/
theorem test_reserved_1F : run .ext "0x1F fin=FF FF FF FF FF FF FF FF, idin=0x6001, mod=1" =
    some { Outputs.zero with badOp := true } := by
  decide
/-- V-CTL-04, every other reserved code. -/
theorem test_reserved_others :
    ["0x0C", "0x0D", "0x0E", "0x0F", "0x16", "0x17", "0x19", "0x1A", "0x1B", "0x1C", "0x1D", "0x1E"].all
      (fun t => run .small t == some { Outputs.zero with badOp := true }) = true := by
  decide
/-- V-CRC-09 and V-CRC-17. -/
theorem test_crc16_check_value :
    crc16 [0x31, 0x32, 0x33, 0x34, 0x35, 0x36, 0x37, 0x38, 0x39] = 0x29B1#16 ∧ crc16 [] = 0xFFFF#16 := by
  decide
/-- E5: the register after the eight steps of the last byte. -/
theorem test_crc_steps : crcSteps 3 0x2A00#16 = 0x4021#16 ∧ crcSteps 8 0x2A00#16 = 0x8528#16 := by
  decide
/-- V-CRC-04. -/
theorem test_crc_gen : run .small "CRC_GEN fin=01 02 03 04 05 06 AA BB" =
    some { Outputs.zero with crc := 0xD71C, fout := countFrame } := by
  decide
/-- V-CRC-07. -/
theorem test_crc_check_ok : run .small "CRC_CHECK fin=FF FF 00 00 00 2A 85 28" =
    some { Outputs.zero with crc := 0x8528, ok := true } := by
  decide
/-- V-CRC-08. -/
theorem test_crc_check_swapped : run .small "CRC_CHECK fin=FF FF 00 00 00 2A 28 85" =
    some { Outputs.zero with crc := 0x8528 } := by
  decide
/-- V-FC-05. -/
theorem test_enc_cellv : run .small "ENC_CELLV u0=3700" =
    some { Outputs.zero with fout := { Frame.zero with b0 := 0x74, b1 := 0x0E } } := by
  decide
/-- V-FC-08. -/
theorem test_enc_cellv_wraps : run .small "ENC_CELLV u0=65535" =
    some { Outputs.zero with fout := { Frame.zero with b0 := 0xFF, b1 := 0x3F } } := by
  decide
/-- V-FC-12. -/
theorem test_dec_cellv : run .small "DEC_CELLV fin=B4 CE 00 00 00 00 00 00" =
    some { Outputs.zero with v0 := 0x0EB4 } := by
  decide
/-- V-FC-15, through its pseudo-operation (R72). -/
theorem test_enc_u16 : run .small "ENC_CIDX u0=0x1234" =
    some { Outputs.zero with fout := { Frame.zero with b0 := 0x12, b1 := 0x34 } } := by
  decide
/-- V-FC-21. -/
theorem test_dec_u16 : run .small "DEC_U16 fin=0F 78 AA BB CC DD EE FF" =
    some { Outputs.zero with v0 := 0x0F78 } := by
  decide
/-- V-FC-30. -/
theorem test_enc_temp : run .small "ENC_TEMP s0=-1" =
    some { Outputs.zero with fout := { Frame.zero with b0 := 0x27 } } := by
  decide
/-- V-FC-28 and V-FC-29. -/
theorem test_enc_temp_clamps : encT 0x8000#16 = 0 ∧ encT 0x7FFF#16 = 0xFF#8 := by
  decide
/-- V-FC-36. -/
theorem test_dec_temp : run .small "DEC_TEMP fin=01 00 00 00 00 00 00 00" =
    some { Outputs.zero with v0 := 0xFFD9 } := by
  decide
/-- V-ID-09. -/
theorem test_make_id : run .small "MAKE_ID mod=0xFF, typ=0xFF" =
    some { Outputs.zero with idout := 0x15FFF } := by
  decide
/-- V-ID-14. -/
theorem test_dec_mod : run .small "DEC_MOD idin=0x1234" =
    some { Outputs.zero with modout := 0xB2 } := by
  decide
/-- V-ID-20. -/
theorem test_dec_type : run .small "DEC_TYPE idin=0x8010" =
    some { Outputs.zero with typout := 0x10 } := by
  decide
/-- V-BLD-02, EXT. -/
theorem test_bld_bal : run .ext "BLD_BAL mod=3, mask=0x80000001" =
    some { Outputs.zero with
      idout := 0x6401, crc := 0xCD19,
      fout := ⟨0xFF, 0xFF, 0x80, 0x00, 0x00, 0x01, 0xCD, 0x19⟩ } := by
  decide
/-- V-BLD-04, SMALL. -/
theorem test_bld_cellv : run .small "BLD_CELLV mod=0, grp=0, u0=3700, u1=3650, u2=4200" =
    some { Outputs.zero with
      idout := 0x6002, crc := 0x8AC2,
      fout := ⟨0x74, 0x0E, 0x42, 0x0E, 0x68, 0x10, 0x8A, 0xC2⟩ } := by
  decide
/-- V-BLD-07, EXT: the frame-group nibble. -/
theorem test_bld_cellv_ext : (run .ext "BLD_CELLV mod=1, grp=12, u0=3300, u1=3301, u2=3302").map (·.idout) =
    some 0x6212#32 := by
  decide
/-- V-BLD-10, SMALL. -/
theorem test_bld_temp :
    run .small "BLD_TEMP mod=0, grp=0, s0=25, s1=-40, s2=215, s3=-41, s4=216, s5=0" =
    some { Outputs.zero with
      idout := 0x600F, crc := 0xCC96,
      fout := ⟨0x41, 0x00, 0xFF, 0x00, 0xFF, 0x28, 0xCC, 0x96⟩ } := by
  decide
/-- V-BLD-20. -/
theorem test_bld_pack1 : run .ext "BLD_PACK1 mod=7, grp=3, u0=3960, u1=4100, u2=3200" =
    some { Outputs.zero with
      idout := 0x8000, crc := 0x873E,
      fout := ⟨0x0F, 0x78, 0x04, 0x10, 0x80, 0x0C, 0x87, 0x3E⟩ } := by
  decide
/-- V-BLD-17. -/
theorem test_bld_pack2 : run .small "BLD_PACK2 u0=0, u1=0xFFFF, u2=0x0100" =
    some { Outputs.zero with
      idout := 0x8010, crc := 0xB9E1,
      fout := ⟨0x00, 0x00, 0xFF, 0xFF, 0x01, 0x00, 0xB9, 0xE1⟩ } := by
  decide
/-- V-BLD-21. -/
theorem test_bld_pack3 : run .small "BLD_PACK3 s0=45, s1=-10, s2=20, s3=99, s4=99, s5=99" =
    some { Outputs.zero with
      idout := 0x8020, crc := 0x47C0,
      fout := ⟨0x55, 0x1E, 0x3C, 0xFF, 0xFF, 0xFF, 0x47, 0xC0⟩ } := by
  decide
/-- V-DEC-22: bit 16 of the identifier is ignored. -/
theorem test_decode_frame : run .small "DECODE_FRAME idin=0x18001, fin=01 02 03 04 05 06 D7 1C" =
    some { Outputs.zero with
      ok := true, kind := 1, crc := 0xD71C, modout := 0x20, typout := 0x01,
      maskout := 0x03040506, fout := countFrame } := by
  decide
/-- V-DEC-17: the CRC gate wins over the fixed identifier. -/
theorem test_decode_frame_gate : run .ext "DECODE_FRAME idin=0x8000, fin=00 00 00 00 00 00 00 00" =
    some { Outputs.zero with crc := 0x0E10 } := by
  decide
/-- Rows of section 2.3's table of message types: g = 23, 192, 255. -/
theorem test_message_types :
    (cellType .ext 23, cellType .ext 192, cellType .small 255, tempType 16) = (0x1D#8, 0x02#8, 0x01#8, 0xFF#8) := by
  decide
/-- R42: byte 0 in bits 63:56. -/
theorem test_flat_form : balFrame.flat = 0xFFFF0000002A8528#64 := by
  decide
/-- R71's own example of `fin`, with a comment. -/
theorem test_line_text : rejected "CRC_CHECK fin=FF FF 00 00 00 2A 85 28 ; valid" = none := by
  decide
theorem test_line_unknown_name : rejected "LOAD mod=1" = some .unknownName := by
  decide
theorem test_line_unknown_port : rejected "MAKE_ID reg=1" = some .unknownPort := by
  decide
/-- The digits of a byte of `fin` (notes/assumptions/9.md). -/
theorem test_line_byte_digits : bytesOfText "F 0f 00F aB".toList = some [15, 15, 15, 171] := by
  decide
theorem test_line_bad_number : rejected "MAKE_ID mod=0xZZ" = some .badNumber := by
  decide
theorem test_line_wide : rejected "MAKE_ID mod=256" = some (.valueTooWide .mod) := by
  decide

/-! ### The hypotheses of the statements can be met -/

theorem witness_step_decodes : decodeOp (State.resetWith .ext).op = .nop := by decide
theorem witness_wide_byte : 32 ≤ (0x21#8 : Byte).toNat ∧ decode [0x18#8] = .ok (.decodeFrame, []) := by decide
/-- CrcCheckComparesTheTrailer's third clause. -/
theorem witness_swapped_trailer :
    let p : Payload := ⟨0xFF, 0xFF, 0, 0, 0, 0x2A⟩
    p.crc.toNat / 256 ≠ p.crc.toNat % 256 ∧
      (⟨0xFF, 0xFF, 0, 0, 0, 0x2A, 0x28, 0x85⟩ : Frame) =
        ⟨p.p0, p.p1, p.p2, p.p3, p.p4, p.p5, Claims.low p.crc, Claims.high p.crc⟩ := by
  decide
theorem witness_zero_frame : (State.resetWith .small).inp.fin = Frame.zero := by
  decide
theorem witness_sealed_frame : balFrame = balFrame.payload.withTrailer balFrame.payload.crc := by
  decide
theorem witness_valid_frame : balFrame.crcOk = true ∧ Claims.ValidFrame balFrame := by
  decide
/-- SingleBitErrorNeverDecodes and CrcCheckComparesTheTrailer's last clause: V-CRC-13. -/
theorem witness_single_bit :
    Claims.ValidFrame balFrame ∧
      (holding .small 0x6001 ⟨0xFF, 0xFF, 0, 0, 0, 0x2A, 0x85, 0xA8⟩).inp.fin =
        balFrame.xor (Frame.oneBit 7) := by
  decide
theorem witness_data_bit : 16 ≤ (16 : Fin 64).val ∧ 16 ≤ (63 : Fin 64).val := by decide
theorem witness_temperature_ends :
    (0xFFD8#16 : Half).toInt ≤ -40 ∧ 215 ≤ (0x00D7#16 : Half).toInt ∧ (0x8000#16 : Half).toInt < -40 ∧
      215 < (0x00D8#16 : Half).toInt ∧ legalTemp 0xFFD8#16 = true ∧ legalTemp 0x00D7#16 = true := by decide
theorem witness_cell_voltage_end : legalCellVoltage 0x3FFF#16 = true ∧ legalCellVoltage 0x4000#16 = false := by
  decide
theorem witness_same_identifier : composeId 0xFF 0xFF = composeId 0xFF 0xFF := by
  decide
theorem witness_exec_answers (i : Instr) : ∃ t, exec i (State.resetWith .small) = .next t := by
  cases i <;> exact ⟨_, rfl⟩
theorem witness_small_module : offsetModule .ext 0x1F = 0x20#8 ∧ offsetModule .small 0x20 = 0x20#8 := by decide
/-- BuilderDecoderRoundTrip: all legal inputs at once, in EXT. -/
theorem witness_legal_state :
    let s := State.resetWith .ext
    legalModule s.variant s.inp.mod = true ∧ legalCellGroup s.variant s.inp.grp = true ∧
      legalTempGroup s.variant s.inp.grp = true ∧ legalCellVoltage s.inp.u0 = true ∧
      legalCellVoltage s.inp.u1 = true ∧ legalCellVoltage s.inp.u2 = true ∧ legalTemp s.inp.s0 = true ∧
      legalTemp s.inp.s1 = true ∧ legalTemp s.inp.s2 = true ∧ legalTemp s.inp.s3 = true ∧
      legalTemp s.inp.s4 = true ∧ legalTemp s.inp.s5 = true := by
  decide
/-- The legal inputs of BuilderDecoderRoundTrip and LegalFramesAvoidPackIdentifiers at their ends (R180). -/
theorem witness_legal_groups :
    (legalCellGroup .small 7, legalCellGroup .small 8, legalCellGroup .ext 191, legalCellGroup .ext 11,
      legalCellGroup .ext 192) = (true, false, true, false, false) ∧
    (legalTempGroup .small 2, legalTempGroup .small 3, legalTempGroup .ext 1, legalTempGroup .ext 2) =
      (true, false, true, false) ∧
    (legalModule .small 255, legalModule .ext 254, legalModule .ext 255) = (true, true, false) := by decide
/-- InvalidFrameDecodesNothing, and DecoderPriorities' second clause. -/
theorem witness_invalid_frame : ¬ Claims.ValidFrame (holding .small 0x6001 Frame.zero).inp.fin := by
  decide
/-- PackFramesDecode: each of the three identifiers on a valid frame. -/
theorem witness_pack_frames :
    [0x8000#32, 0x8010#32, 0x8020#32].all (fun id =>
      decide (Claims.ValidFrame (holding .small id balFrame).inp.fin ∧
        ¬ Claims.PerModuleId (holding .ext id balFrame).inp.idin)) = true := by
  decide
/-- BalancingFramesDecode. -/
theorem witness_balancing :
    Claims.ValidFrame (holding .ext 0x6101 balFrame).inp.fin ∧
      Claims.PerModuleId (holding .ext 0x6101 balFrame).inp.idin ∧
      (holding .ext 0x6101 balFrame).inp.idin.extractLsb' 0 8 = 0x01#8 := by
  decide
/-- CellVoltageFramesDecode in SMALL: the first and the last cell type, 0x02 and 0x09. -/
theorem witness_cell_types_small :
    [2, 9].all (fun lo =>
      decide (let s := holding .small (BitVec.ofNat 32 (0x6000 + lo)) balFrame
        Claims.ValidFrame s.inp.fin ∧ Claims.PerModuleId s.inp.idin ∧
        s.inp.idin.toNat % 256 = 16 * 0 + lo ∧ 2 ≤ lo ∧ lo ≤ 13 ∧ (0 = 0 ∧ lo ≤ 9))) = true := by
  decide
/-- CellVoltageFramesDecode in EXT: 0x02, 0x0C (the last before the ambiguous type), 0x12, 0x1D and 0xFD. -/
theorem witness_cell_types_ext :
    [(0, 2), (0, 12), (1, 2), (1, 13), (15, 13)].all (fun n =>
      decide (let s := holding .ext (BitVec.ofNat 32 (0x6000 + 16 * n.1 + n.2)) balFrame
        Claims.ValidFrame s.inp.fin ∧ Claims.PerModuleId s.inp.idin ∧
        s.inp.idin.toNat % 256 = 16 * n.1 + n.2 ∧ 2 ≤ n.2 ∧ n.2 ≤ 13 ∧ ¬ (n.1 = 0 ∧ n.2 = 13))) = true := by
  decide
/-- TemperatureFramesDecode: groups 0 and 1 in both variants, group 2 in SMALL. -/
theorem witness_temp_types :
    [(Variant.small, 0), (.small, 1), (.small, 2), (.ext, 0), (.ext, 1)].all (fun n =>
      decide (let s := holding n.1 (BitVec.ofNat 32 (0x600F - n.2)) balFrame
        Claims.ValidFrame s.inp.fin ∧ Claims.PerModuleId s.inp.idin ∧
        s.inp.idin.toNat % 256 + n.2 = 15 ∧ n.2 ≤ 2 ∧ (s.variant = .ext → n.2 ≤ 1))) = true := by
  decide
/-- AmbiguousFramePassesThrough. -/
theorem witness_ambiguous :
    let s := holding .ext 0x600D balFrame
    Claims.ValidFrame s.inp.fin ∧ Claims.PerModuleId s.inp.idin ∧ s.variant = .ext ∧
      s.inp.idin.extractLsb' 0 8 = 0x0D#8 := by
  decide
/-- UnknownTypePassesThrough in SMALL: 0x00, 0x0A, 0x0C, 0x10 and 0xFF. -/
theorem witness_unknown_types_small :
    [0x00, 0x0A, 0x0C, 0x10, 0xFF].all (fun t =>
      decide (let s := holding .small (BitVec.ofNat 32 (0x6000 + t)) balFrame
        Claims.ValidFrame s.inp.fin ∧ Claims.PerModuleId s.inp.idin ∧ t = s.inp.idin.toNat % 256 ∧
        (t = 0 ∨ (0x0A ≤ t ∧ t ≤ 0x0C) ∨ 0x10 ≤ t))) = true := by
  decide
/-- UnknownTypePassesThrough in EXT: 0x00, 0x10, 0x11, 0x1E, 0xFE and 0xFF. -/
theorem witness_unknown_types_ext :
    [0x00, 0x10, 0x11, 0x1E, 0xFE, 0xFF].all (fun t =>
      decide (let s := holding .ext (BitVec.ofNat 32 (0x6000 + t)) balFrame
        Claims.ValidFrame s.inp.fin ∧ Claims.PerModuleId s.inp.idin ∧ t = s.inp.idin.toNat % 256 ∧
        (t = 0 ∨ (0x10 ≤ t ∧ (t % 16 = 0 ∨ t % 16 = 1 ∨ t % 16 = 14 ∨ t % 16 = 15))))) = true := by
  decide
/-- PaddingIsNotChecked, balancing state: V-DEC-24 beside the same mask with 0xFF padding. -/
theorem witness_padding_bal :
    let p : Payload := ⟨0xFF, 0xFF, 0x12, 0x34, 0x56, 0x78⟩
    let s := holding .small 0x6001 ⟨0x00, 0x00, 0x12, 0x34, 0x56, 0x78, 0xBA, 0x3C⟩
    let t := holding .small 0x6001 (p.withTrailer p.crc)
    Claims.ValidFrame s.inp.fin ∧ Claims.ValidFrame t.inp.fin ∧ s.variant = t.variant ∧
      s.inp.idin = t.inp.idin ∧ Claims.PerModuleId s.inp.idin ∧ s.inp.idin.extractLsb' 0 8 = 0x01#8 ∧
      s.inp.fin.b2 = t.inp.fin.b2 ∧ s.inp.fin.b3 = t.inp.fin.b3 ∧
      s.inp.fin.b4 = t.inp.fin.b4 ∧ s.inp.fin.b5 = t.inp.fin.b5 := by
  decide
/-- PaddingIsNotChecked, pack data 3: V-DEC-14 beside V-DEC-25. -/
theorem witness_padding_pack3 :
    let s := holding .small 0x8020 ⟨0x55, 0x1E, 0x3C, 0xFF, 0xFF, 0xFF, 0x47, 0xC0⟩
    let t := holding .small 0x8020 ⟨0x55, 0x1E, 0x3C, 0x00, 0x00, 0x00, 0x95, 0xAC⟩
    Claims.ValidFrame s.inp.fin ∧ Claims.ValidFrame t.inp.fin ∧ s.variant = t.variant ∧
      s.inp.idin = t.inp.idin ∧ s.inp.idin = 0x8020#32 ∧ s.inp.fin.b0 = t.inp.fin.b0 ∧
      s.inp.fin.b1 = t.inp.fin.b1 ∧ s.inp.fin.b2 = t.inp.fin.b2 := by
  decide
theorem witness_reserved_code : (decodeOp 0x0C#5).reserved = true ∧ (decodeOp 0x1F#5).reserved = true := by
  decide
/-- OutputsDependOnlyOnReadPorts: the two states differ in VARIANT and `idin`, which DEC_TEMP does not read. -/
theorem witness_reads_agree :
    readsAgree .decTemp (holding .small 0 balFrame) (holding .ext 7 balFrame) ∧
      (∃ u, exec .decTemp (holding .small 0 balFrame) = .next u) ∧
      ∃ w, exec .decTemp (holding .ext 7 balFrame) = .next w := ⟨rfl, ⟨_, rfl⟩, ⟨_, rfl⟩⟩
theorem witness_host_run : ∃ t, hostRun [.present ⟨0x18, Inputs.zero⟩, .evaluate, .chain 0x02, .reset]
    (State.resetWith .ext) = .next t ∧ t.variant = .ext := ⟨_, rfl, rfl⟩
theorem witness_sound_state : (State.resetWith .small).Sound :=
  ⟨⟨by decide, by decide, by decide, by decide, by decide, by decide, by decide, by decide⟩, by decide⟩
theorem witness_named_kinds : 9 ≤ (0x9#4 : KindCode).toNat ∧ 9 ≤ (0xF#4 : KindCode).toNat := by decide
theorem witness_latency : (48 : Nat) ≤ 48 ∧ (0 : Nat) < 48 ∧
    ∃ t, step ((State.resetWith .small).present ⟨0x02, Inputs.zero⟩) = .next t := ⟨by decide, by decide, _, rfl⟩
/-- ZerosUntilFirstEvaluation where n + m reaches LATENCY: the held inputs and other inputs, one for each
branch of its `if`. -/
theorem witness_held_through_reset :
    let held : Evaluation := ⟨0x0C, Inputs.zero⟩
    let c : Clocked := { variant := .small, inputs := held, stable := 5, sinceReset := false, seed := 0 }
    let shown (e : Evaluation) := (((c.reset.ticks 2 1).present e).ticks 2 1).outputs 2
    1 < 2 ∧ 2 ≤ 1 + 1 ∧ shown held = { Outputs.zero with badOp := true } ∧
      (⟨0x0D, Inputs.zero⟩ : Evaluation) ≠ held ∧ shown ⟨0x0D, Inputs.zero⟩ = Outputs.zero := by
  decide
/-- OnlyIllFormedLinesRefused' last clause on a temperature port, at its highest value. -/
theorem witness_temperature_pattern : (65535 : Int) < 2 ^ NumPort.s0.width ∧
    (32768 : Int) < 2 ^ NumPort.s0.width := by decide
theorem witness_port_values : (2 : Int) ^ NumPort.mod.width ≤ 256 ∧ (0 : Int) ≤ 255 ∧
    (255 : Int) < 2 ^ NumPort.mod.width := by decide

end Sys2Proof.Tests
end

/-! SUPPORT. Everything an evaluation can leave on the output ports is sound (State.Sound): one lemma per
shape of outputs, then one case per operation. -/

namespace Sys2Proof.Machine

/-! ### Identifiers (spec/10_state.md R31) -/

/-- The identifiers CORE produces, as `Outputs.Sound` bounds them. -/
theorem composeId_range (m t : Byte) :
    0x6000 ≤ (composeId m t).toNat ∧ (composeId m t).toNat ≤ 0x15FFF := by
  have := m.isLt
  have := t.isLt
  rw [composeId_toNat]
  omega

theorem high_bits_zero_of_lt {id : Word} (h : id.toNat < 2 ^ 17) : id.extractLsb' 17 15 = 0 := by
  apply BitVec.eq_of_toNat_eq
  rw [BitVec.extractLsb'_toNat, Nat.shiftRight_eq_div_pow, Nat.div_eq_of_lt h]
  rfl

theorem Outputs.Sound.idout_high_bits {o : Outputs} (h : o.Sound) : o.idout.extractLsb' 17 15 = 0 := by
  apply high_bits_zero_of_lt
  obtain h0 | ⟨-, hle⟩ := h.idout_range
  · simp [h0]
  · omega

/-! ### The shapes of outputs -/

theorem Frame.trailer_eq_zero {f : Frame} (h6 : f.b6 = 0) (h7 : f.b7 = 0) : f.trailer = 0 := by
  simp [Frame.trailer, h6, h7]

/-- Outputs with no kind, no mask, no group and no late value: what every operation but DECODE_FRAME drives,
and DECODE_FRAME for an invalid frame. -/
theorem Outputs.Sound.of_kindless {o : Outputs}
    (h : o = { Outputs.zero with
      fout := o.fout, idout := o.idout, crc := o.crc, ok := o.ok, modout := o.modout, typout := o.typout,
      v0 := o.v0 })
    (hid : o.idout = 0 ∨ (0x6000 ≤ o.idout.toNat ∧ o.idout.toNat ≤ 0x15FFF))
    (hseal : o.fout.trailer ≠ 0 → o.fout.crcOk = true ∧ o.crc = o.fout.trailer) : o.Sound := by
  have hkind : o.kind = 0 := congrArg Outputs.kind h
  have hbad : o.badOp = false := congrArg Outputs.badOp h
  have hmask : o.maskout = 0 := congrArg Outputs.maskout h
  have hgrp : o.grpout = 0 := congrArg Outputs.grpout h
  have hlate : o.v3 = 0 ∧ o.v4 = 0 ∧ o.v5 = 0 :=
    ⟨congrArg Outputs.v3 h, congrArg Outputs.v4 h, congrArg Outputs.v5 h⟩
  exact {
    kind_named := by simp [hkind]
    idout_range := hid
    badOp_alone := by simp [hbad]
    fout_sealed := hseal
    kind_valid := absurd hkind
    mask_of_bal := absurd hmask
    group_of_module := absurd hgrp
    late_values_of_temp := by simp [hlate] }

/-- `bad_op` alone (R231). -/
theorem badOpOutputs_sound : badOpOutputs.Sound := by
  constructor <;> decide

/-- Kindless outputs that show no trailer and no identifier: the control and codec operations, DEC_MOD,
DEC_TYPE and CRC_CHECK. -/
theorem Outputs.Sound.of_unsealed {o : Outputs}
    (h : o = { Outputs.zero with
      fout := { Frame.zero with b0 := o.fout.b0, b1 := o.fout.b1 }, crc := o.crc, ok := o.ok,
      modout := o.modout, typout := o.typout, v0 := o.v0 }) : o.Sound := by
  have hid : o.idout = 0 := congrArg Outputs.idout h
  have htrailer : o.fout.trailer = 0 :=
    Frame.trailer_eq_zero (congrArg (·.fout.b6) h) (congrArg (·.fout.b7) h)
  refine .of_kindless ?_ (.inl hid) (absurd htrailer)
  rw [h]

/-- The common end of the builders (R170) and, with no identifier, of CRC_GEN (R104): the trailer is the CRC. -/
theorem finish_sound {id : Word} (hid : id = 0 ∨ (0x6000 ≤ id.toNat ∧ id.toNat ≤ 0x15FFF)) (p : Payload) :
    (finish id p).Sound :=
  .of_kindless rfl hid fun _ => ⟨p.withTrailer_crcOk, (p.withTrailer_trailer p.crc).symm⟩

theorem finish_composeId_sound (m t : Byte) (p : Payload) : (finish (composeId m t) p).Sound :=
  finish_sound (.inr (composeId_range m t)) p

/-! ### DECODE_FRAME (spec/44_frame_decoder.md R200) -/

/-- A valid frame under the fixed identifier of pack data 1 (R203, R204). -/
theorem decodeFrameOutputs_pack1 {f : Frame} (h : f.crcOk = true) (var : Variant) :
    decodeFrameOutputs var pack1Id f = pack1Values f { Outputs.zero with
      crc := f.payload.crc, ok := true, fout := f, kind := Kind.pack1.code } := by
  simp only [decodeFrameOutputs, h, if_true]

/-- A valid frame under the fixed identifier of pack data 2 (R203, R205). -/
theorem decodeFrameOutputs_pack2 {f : Frame} (h : f.crcOk = true) (var : Variant) :
    decodeFrameOutputs var pack2Id f = pack2Values f { Outputs.zero with
      crc := f.payload.crc, ok := true, fout := f, kind := Kind.pack2.code } := by
  simp only [decodeFrameOutputs, h, if_true, (by decide : pack2Id ≠ pack1Id), if_false]

/-- A valid frame under the fixed identifier of pack data 3 (R203, R206). -/
theorem decodeFrameOutputs_pack3 {f : Frame} (h : f.crcOk = true) (var : Variant) :
    decodeFrameOutputs var pack3Id f = pack3Values f { Outputs.zero with
      crc := f.payload.crc, ok := true, fout := f, kind := Kind.pack3.code } := by
  simp only [decodeFrameOutputs, h, if_true, (by decide : pack3Id ≠ pack1Id),
    (by decide : pack3Id ≠ pack2Id), if_false]

theorem Kind.code_le (k : Kind) : k.code.toNat ≤ 8 := by
  cases k <;> decide

/-- A valid frame passed through under a kind, with the mask, the group and the late values only of the kinds
that have them. -/
theorem Outputs.Sound.of_passed {f : Frame} (hf : f.crcOk = true) {o : Outputs} (k : Kind)
    (h : o = { o with
      ok := true, fout := f, crc := f.payload.crc, kind := k.code, idout := 0, badOp := false })
    (hmask : o.maskout = 0 ∨ k = .bal) (hgrp : o.grpout = 0 ∨ k = .cellv ∨ k = .temp)
    (hlate : (o.v3 = 0 ∧ o.v4 = 0 ∧ o.v5 = 0) ∨ k = .temp) : o.Sound := by
  have hok : o.ok = true := congrArg Outputs.ok h
  have hfout : o.fout = f := congrArg Outputs.fout h
  have hcrc : o.crc = f.trailer := (congrArg Outputs.crc h).trans (f.crcOk_iff.mp hf)
  have hkind : o.kind = k.code := congrArg Outputs.kind h
  have hid : o.idout = 0 := congrArg Outputs.idout h
  have hbad : o.badOp = false := congrArg Outputs.badOp h
  constructor
  case kind_named => exact hkind ▸ k.code_le
  case idout_range => exact .inl hid
  case badOp_alone => simp [hbad]
  case fout_sealed => simp [hfout, hf, hcrc]
  case kind_valid => simp [hok, hfout, hf, hcrc]
  case mask_of_bal => exact fun hne => hkind.trans (congrArg Kind.code (hmask.resolve_left hne))
  case group_of_module =>
    intro hne
    rw [hkind]
    exact (hgrp.resolve_left hne).imp (congrArg Kind.code) (congrArg Kind.code)
  case late_values_of_temp =>
    intro hne
    have hk : k = .temp := hlate.resolve_left (by tauto)
    rw [hkind, hk]

/-- The per-module scheme (R207 to R213), whatever kind and group the message type stands for. -/
theorem decodeModuleFrame_sound {f : Frame} (hf : f.crcOk = true) (var : Variant) (id : Word) :
    (decodeModuleFrame var id f
      { Outputs.zero with crc := f.payload.crc, ok := true, fout := f }).Sound := by
  unfold decodeModuleFrame
  obtain ⟨k, g⟩ := classify var (typeOfId id)
  cases k with
  | bal => exact .of_passed hf .bal rfl (.inr rfl) (.inl rfl) (.inl ⟨rfl, rfl, rfl⟩)
  | cellv => exact .of_passed hf .cellv rfl (.inl rfl) (.inr (.inl rfl)) (.inl ⟨rfl, rfl, rfl⟩)
  | temp => exact .of_passed hf .temp rfl (.inl rfl) (.inr (.inr rfl)) (.inr rfl)
  | invalid | pack1 | pack2 | pack3 | ambig | unknown =>
    exact .of_passed hf _ rfl (.inl rfl) (.inl rfl) (.inl ⟨rfl, rfl, rfl⟩)

/-- R201, the valid half: `ok` is driven to 1 only for a valid frame. -/
theorem decodeFrameOutputs_ok {var : Variant} {id : Word} {f : Frame}
    (h : (decodeFrameOutputs var id f).ok = true) : f.crcOk = true := by
  by_contra hf
  rw [decodeFrameOutputs_invalid (Bool.eq_false_iff.mpr hf)] at h
  cases h

theorem decodeFrameOutputs_sound (var : Variant) (id : Word) (f : Frame) :
    (decodeFrameOutputs var id f).Sound := by
  cases hf : f.crcOk with
  | false =>
    rw [decodeFrameOutputs_invalid hf]
    exact .of_unsealed rfl
  | true =>
    by_cases h1 : id = pack1Id
    · rw [h1, decodeFrameOutputs_pack1 hf]
      exact .of_passed hf .pack1 rfl (.inl rfl) (.inl rfl) (.inl ⟨rfl, rfl, rfl⟩)
    by_cases h2 : id = pack2Id
    · rw [h2, decodeFrameOutputs_pack2 hf]
      exact .of_passed hf .pack2 rfl (.inl rfl) (.inl rfl) (.inl ⟨rfl, rfl, rfl⟩)
    by_cases h3 : id = pack3Id
    · rw [h3, decodeFrameOutputs_pack3 hf]
      exact .of_passed hf .pack3 rfl (.inl rfl) (.inl rfl) (.inl ⟨rfl, rfl, rfl⟩)
    rw [decodeFrameOutputs_module hf h1 h2 h3]
    exact decodeModuleFrame_sound hf var id

/-! ### Every operation -/

/-- Driving sound outputs leads to a sound state, if `ok` is 1 only for a valid frame on `fin`. -/
theorem State.sound_of_drive {s t : State} {o : Outputs} (h : s.drive o = .next t) (ho : o.Sound)
    (hok : o.ok = true → s.inp.fin.crcOk = true) : t.Sound := by
  obtain rfl := State.drive_next.mp h
  exact ⟨ho, hok⟩

/-- Driving sound outputs with `ok` at 0 leads to a sound state. -/
theorem State.sound_of_drive_not_ok {s t : State} {o : Outputs} (h : s.drive o = .next t) (ho : o.Sound)
    (hok : o.ok = false) : t.Sound :=
  State.sound_of_drive h ho fun h1 => absurd h1 (Bool.eq_false_iff.mp hok)

/-- Every operation leads to a sound state, from any state at all. -/
theorem exec_sound {i : Instr} {s t : State} (h : exec i s = .next t) : t.Sound := by
  cases i with
  | nop | encCellv | decCellv | encU16 | decU16 | encTemp | decTemp | decMod | decType =>
    exact State.sound_of_drive_not_ok h (.of_unsealed rfl) rfl
  | crcGen => exact State.sound_of_drive_not_ok (o := finish 0 _) h (finish_sound (.inl rfl) _) rfl
  | crcCheck => exact State.sound_of_drive h (.of_unsealed rfl) id
  | makeId =>
    exact State.sound_of_drive_not_ok h
      (.of_kindless rfl (.inr (composeId_range _ _)) (absurd (Frame.trailer_eq_zero rfl rfl))) rfl
  | bldBal | bldCellv | bldTemp =>
    exact State.sound_of_drive_not_ok h (finish_composeId_sound _ _ _) rfl
  | bldPack1 | bldPack2 | bldPack3 =>
    exact State.sound_of_drive_not_ok h (finish_sound (.inr (by decide)) _) rfl
  | decodeFrame => exact State.sound_of_drive h (decodeFrameOutputs_sound _ _ _) decodeFrameOutputs_ok
  | reserved0C | reserved0D | reserved0E | reserved0F | reserved16 | reserved17 | reserved19
  | reserved1A | reserved1B | reserved1C | reserved1D | reserved1E | reserved1F =>
    exact State.sound_of_drive_not_ok h badOpOutputs_sound rfl

/-- Settles O51: soundness is a property of what one evaluation drives. -/
theorem stepKeepsSound : Obligations.StepKeepsSound :=
  fun _ _ _ h => exec_sound h

/-- Settles O25: the bound on every identifier is part of soundness; the per-module identifiers are
compositions, and the pack identifiers are constants. -/
theorem identifierRanges : Obligations.IdentifierRanges := by
  refine ⟨fun i s t h => (exec_sound h).out_sound.idout_high_bits, fun i s hi => ?_, fun i s id hi => ?_,
    by decide, by decide, by decide⟩
  · simp only [List.mem_cons, List.not_mem_nil, or_false] at hi
    obtain rfl | rfl | rfl | rfl := hi <;> exact ⟨_, rfl, composeId_range _ _⟩
  · simp only [List.mem_cons, Prod.mk.injEq, List.not_mem_nil, or_false] at hi
    obtain ⟨rfl, rfl⟩ | ⟨rfl, rfl⟩ | ⟨rfl, rfl⟩ := hi <;> exact ⟨_, rfl, rfl⟩

/-! ### The transfer function (R20, R28) and VARIANT (R24, R263) -/

/-- One step drives the transfer function of VARIANT and the presented evaluation, and changes nothing else. -/
theorem step_eq_transfer (s : State) :
    step s = .next { s with out := transfer s.variant s.evaluation } := by
  obtain ⟨o, hs, hzero⟩ := exec_forgets_outputs (decodeOp s.op) s Outputs.zero
  have hcold : step ((State.resetWith s.variant).present s.evaluation) = .next { s with out := o } := hzero
  have ho : transfer s.variant s.evaluation = o := by rw [transfer, hcold]
  rw [ho]
  exact hs

/-- Settles O46, by `step_eq_transfer` from both states. -/
theorem noStateSurvivesAnEvaluation : Obligations.NoStateSurvivesAnEvaluation := by
  refine fun s => ⟨step_eq_transfer s, fun t hvar hop hinp => ?_⟩
  have he : t.evaluation = s.evaluation := by simp only [State.evaluation, hop, hinp]
  rw [step_eq_transfer t, hvar, he]

theorem hostStep_variant {m : HostMove} {s t : State} (h : hostStep m s = .next t) :
    t.variant = s.variant := by
  cases m with
  | present e => exact Host.Outcome.next.inj h ▸ rfl
  | line l =>
    simp only [hostStep] at h
    split at h
    · exact Host.Outcome.next.inj h ▸ rfl
    · cases h
  | evaluate => exact (exec_frame h).1
  | chain op => exact Host.Outcome.next.inj h ▸ rfl
  | reset => exact Host.Outcome.next.inj h ▸ rfl

/-- Settles O50, by induction on the host's moves. -/
theorem variantIsStatic : Obligations.VariantIsStatic := by
  intro ms
  induction ms with
  | nil => exact fun s t h => Host.Outcome.next.inj h ▸ rfl
  | cons m ms ih =>
    intro s t h
    rw [hostRun] at h
    split at h
    next u hm => exact (ih u t h).trans (hostStep_variant hm)
    all_goals cases h

end Sys2Proof.Machine

/-! SUPPORT. Sequences of evaluations (spec/20_memory.md R48) and the flat 64-bit form of a frame (R42). -/

namespace Sys2Proof.Machine

/-! ### Sequences of evaluations -/

/-- What the host sees after presenting `e`: the state's own outputs play no part. -/
theorem step_present (s : State) (e : Evaluation) :
    step (s.present e) = .next { s.present e with out := transfer s.variant e } :=
  step_eq_transfer (s.present e)

/-- The first evaluation of a sequence adds its transferred outputs in front of the results of the rest. -/
theorem runEvaluations_cons {e : Evaluation} {es : List Evaluation} {s t : State} {outs : List Outputs}
    (h : runEvaluations es { s.present e with out := transfer s.variant e } = .next (t, outs)) :
    runEvaluations (e :: es) s = .next (t, transfer s.variant e :: outs) := by
  simp only [runEvaluations, step_present, h]

/-- Settles O49, by induction on the sequence: each step leaves VARIANT to the rest of the sequence as it was. -/
theorem evaluationsAreIndependent : Obligations.EvaluationsAreIndependent := by
  intro es
  induction es with
  | nil => exact fun s => ⟨s, rfl, rfl⟩
  | cons e es ih =>
    intro s
    obtain ⟨t, hrun, hvar⟩ := ih { s.present e with out := transfer s.variant e }
    exact ⟨t, runEvaluations_cons hrun, hvar⟩

/-! ### The flat 64-bit form -/

/-- A byte read above the lowest one does not see it. -/
theorem extractByte_append {n : Nat} (x : BitVec n) (b : Byte) (k : Nat) :
    (x ++ b).extractLsb' (k + 8) 8 = x.extractLsb' k 8 := by
  rw [BitVec.extractLsb'_append_eq_of_le (Nat.le_add_left 8 k), Nat.add_sub_cancel]

/-- Taking a byte out of the flat form drops the bytes below it, until the byte is the lowest one left. -/
@[simp] theorem Frame.ofFlat_flat (f : Frame) : Frame.ofFlat f.flat = f := by
  obtain ⟨b0, b1, b2, b3, b4, b5, b6, b7⟩ := f
  simp only [Frame.ofFlat, Frame.flat, Frame.mk.injEq]
  refine ⟨?_, ?_, ?_, ?_, ?_, ?_, ?_, ?_⟩
  all_goals repeat rw [extractByte_append]
  · exact BitVec.extractLsb'_eq_self
  all_goals exact BitVec.extractLsb'_append_eq_right

/-- Adjacent bytes of the bus join into one slice, seven times over, which is then the whole bus. -/
@[simp] theorem Frame.flat_ofFlat (w : BitVec 64) : (Frame.ofFlat w).flat = w := by
  simp only [Frame.ofFlat, Frame.flat]
  iterate 7 rw [BitVec.extractLsb'_append_extractLsb'_eq_extractLsb' (by decide)]
  exact BitVec.extractLsb'_eq_self

theorem Frame.bytes_ofFlat (w : BitVec 64) (i : Fin 8) :
    (Frame.ofFlat w).bytes[i.val]? = some (w.extractLsb' (56 - 8 * i.val) 8) := by
  fin_cases i <;> rfl

/-- Settles O57: the bit places are those `Frame.ofFlat` reads, and `f` is what it reads from `f.flat`. -/
theorem flatFormRoundTrips : Obligations.FlatFormRoundTrips :=
  ⟨Frame.ofFlat_flat, Frame.flat_ofFlat, fun f i => by
    rw [← Frame.bytes_ofFlat, Frame.ofFlat_flat]⟩

end Sys2Proof.Machine

/-! SUPPORT. The op-code map and its byte carrier (spec/30_encoding.md R60 to R64): the two round trips of the
decoder, and what a byte decodes to. -/

namespace Sys2Proof

@[simp] theorem decodeOp_encodeOp (i : Instr) : decodeOp (encodeOp i) = i := by
  cases i <;> rfl

@[simp] theorem encodeOp_decodeOp (op : OpCode) : encodeOp (decodeOp op) = op := by
  revert op
  decide

/-- The carrier's bits 7:5 are zero exactly when its value fits the port (notes/assumptions/4.md). -/
theorem carrier_high_bits_eq_zero_iff (b : Byte) : b.extractLsb' 5 3 = 0#3 ↔ b.toNat < 32 := by
  have := b.isLt
  rw [← BitVec.toNat_inj, BitVec.extractLsb'_toNat, Nat.shiftRight_eq_div_pow, BitVec.toNat_ofNat]
  omega

theorem decode_of_narrow {b : Byte} (h : b.toNat < 32) (rest : List Byte) :
    decode (b :: rest) = .ok (decodeOp (b.extractLsb' 0 5), rest) :=
  if_pos ((carrier_high_bits_eq_zero_iff b).mpr h)

theorem decode_of_wide {b : Byte} (h : 32 ≤ b.toNat) (rest : List Byte) :
    decode (b :: rest) = .error (.widerThanPort b) :=
  if_neg fun h0 => Nat.not_lt.mpr h ((carrier_high_bits_eq_zero_iff b).mp h0)

/-- A code put in a byte's bits 4:0 stays below 32, and is read back from them. -/
theorem decode_setWidth (op : OpCode) (rest : List Byte) :
    decode (op.setWidth 8 :: rest) = .ok (decodeOp op, rest) := by
  have hlt : (op.setWidth 8).toNat < 32 := by
    rw [BitVec.toNat_setWidth_of_le (by decide)]
    exact op.isLt
  have hcode : (op.setWidth 8).extractLsb' 0 5 = op := by
    rw [← BitVec.setWidth_eq_extractLsb' (by decide), BitVec.setWidth_setWidth_of_le op (by decide),
      BitVec.setWidth_eq]
  rw [decode_of_narrow hlt, hcode]

theorem decode_encode (i : Instr) (rest : List Byte) : decode (encode i ++ rest) = .ok (i, rest) := by
  have h := decode_setWidth (encodeOp i) rest
  rwa [decodeOp_encodeOp] at h

/-- A byte of the carrier is the encoding of the operation it decodes to. -/
theorem encode_decodeOp_of_narrow {b : Byte} (h : b.toNat < 32) :
    encode (decodeOp (b.extractLsb' 0 5)) = [b] := by
  rw [encode, encodeOp_decodeOp, List.cons.injEq]
  refine ⟨BitVec.eq_of_toNat_eq ?_, rfl⟩
  rw [BitVec.toNat_setWidth_of_le (by decide), BitVec.extractLsb'_toNat]
  exact Nat.mod_eq_of_lt h

/-- Settles O4: the carrier is read back below 32 and turned away from 32 on. -/
theorem byteCarrierRoundTrips : Obligations.ByteCarrierRoundTrips := by
  refine ⟨decode_encode, fun b rest h => decode_of_wide h rest, fun b rest i h => ?_⟩
  obtain hlt | hge := Nat.lt_or_ge b.toNat 32
  · rw [decode_of_narrow hlt] at h
    cases h
    exact (encode_decodeOp_of_narrow hlt).symm
  · rw [decode_of_wide hge] at h
    cases h

/-- A table word is the operation's code, read as one byte of the carrier. -/
theorem decodeTableWord_encodeOp (nbits : Nat) (i : Instr) :
    decodeTableWord nbits (encodeOp i).toNat = some i := by
  have hlt : (encodeOp i).toNat < 256 := Nat.lt_trans (encodeOp i).isLt (by decide)
  have hbyte : BitVec.ofNat 8 (encodeOp i).toNat = (encodeOp i).setWidth 8 := BitVec.ofNat_toNat 8 _
  rw [decodeTableWord, if_pos hlt, hbyte, decode_setWidth, decodeOp_encodeOp]

/-- Settles O1: each row pairs an operation with the code that encodes it. -/
theorem opcodeMapDecodes : Obligations.OpcodeMapDecodes := by
  intro row hrow
  have hcode : row.1 = (encodeOp row.2).toNat := by
    revert row
    decide
  rw [hcode, decodeTableWord_encodeOp]

/-- Settles O2: a count over the 32 codes, and `encodeOp_decodeOp`. -/
theorem thirteenCodesReserved : Obligations.ThirteenCodesReserved :=
  ⟨by decide, by decide, encodeOp_decodeOp⟩

end Sys2Proof

namespace Sys2Proof.Machine

/-- A step adds nothing to the operation selected (R28, R50). -/
theorem step_eq_exec {i : Instr} {s : State} (h : decodeOp s.op = i) : step s = exec i s :=
  congrArg (exec · s) h

theorem State.withFetchWord_encodeOp (s : State) (nbits : Nat) (i : Instr) :
    s.withFetchWord nbits (encodeOp i).toNat = { s with op := encodeOp i } := by
  rw [State.withFetchWord, BitVec.ofNat_toNat, BitVec.setWidth_eq]

/-- Settles O3: the fetch word puts the operation's own code where the step decodes it. -/
theorem stepRunsTheSelectedOperation : Obligations.StepRunsTheSelectedOperation := by
  refine ⟨fun i s => step_eq_exec, fun i s nbits =>
    ⟨decodeTableWord_encodeOp nbits i, s.withFetchWord_encodeOp nbits i, ?_⟩⟩
  rw [s.withFetchWord_encodeOp]
  exact step_eq_exec (decodeOp_encodeOp i)

end Sys2Proof.Machine

/-! SUPPORT. Lines of assembler text (spec/30_encoding.md R71, R72): when a line is well formed, what it assembles
to, and the line that writes every port. -/

namespace Sys2Proof

/-! ### Well-formed assignments -/

theorem NumPort.least_nonpos (p : NumPort) : p.least ≤ 0 := by
  cases p <;> decide

theorem Assign.reject_num_eq_none_iff {p : NumPort} {v : Int} :
    (Assign.num p v).reject = none ↔ p.least ≤ v ∧ v < 2 ^ p.width := by
  simp only [Assign.reject]
  split
  next hlow => simp [hlow.not_ge]
  next hlow =>
    split
    next hhigh => simp [hhigh.not_gt]
    next hhigh => simp [not_lt.mp hlow, not_le.mp hhigh]

theorem Assign.reject_num_tooWide {p : NumPort} {v : Int} (h : 2 ^ p.width ≤ v) :
    (Assign.num p v).reject = some (.valueTooWide p) := by
  have hpos : (0 : Int) < 2 ^ p.width := by positivity
  have hlow : ¬ v < p.least := by have := p.least_nonpos; omega
  rw [Assign.reject, if_neg hlow, if_pos h]

/-- Every value of a port, read as a natural number, is one the port can carry. -/
theorem Assign.reject_num_toNat (p : NumPort) (x : BitVec p.width) :
    (Assign.num p x.toNat).reject = none := by
  have := p.least_nonpos
  exact Assign.reject_num_eq_none_iff.mpr ⟨by omega, by exact_mod_cast x.isLt⟩

/-- Every value of a temperature port, read as a signed number, is one the port can carry. -/
theorem Assign.reject_num_toInt (p : NumPort) (hp : p.signed = true) (x : BitVec p.width) :
    (Assign.num p x.toInt).reject = none := by
  refine Assign.reject_num_eq_none_iff.mpr ⟨?_, ?_⟩
  · rw [NumPort.least, if_pos hp]
    exact x.le_toInt
  · exact lt_of_lt_of_le BitVec.toInt_lt (pow_le_pow_right₀ (by decide) (Nat.sub_le _ _))

theorem Assign.reject_fin_bytes (f : Machine.Frame) :
    (Assign.fin (f.bytes.map BitVec.toNat)).reject = none := by
  have hbytes : (f.bytes.map BitVec.toNat).any (fun b => 256 ≤ b) = false := by
    rw [List.any_eq_false]
    intro n hn
    obtain ⟨b, -, rfl⟩ := List.mem_map.mp hn
    simpa using b.isLt
  rw [Assign.reject, hbytes]
  rfl

/-! ### Well-formed lines -/

/-- A list of assignments is well formed when each of them is and no two give the same port. -/
theorem rejectOfAssigns_eq_none {as : List Assign} (h : ∀ a ∈ as, a.reject = none)
    (hports : as.Pairwise fun a b => a.samePort b = false) : rejectOfAssigns as = none := by
  induction as with
  | nil => rfl
  | cons a rest ih =>
    obtain ⟨ha, hrest⟩ := List.forall_mem_cons.mp h
    obtain ⟨hfirst, hlater⟩ := List.pairwise_cons.mp hports
    have hany : rest.any a.samePort = false := by simpa using hfirst
    simp [rejectOfAssigns, ha, hany, ih hrest hlater]

theorem rejectOfAssigns_singleton (a : Assign) : rejectOfAssigns [a] = a.reject := by
  cases h : a.reject <;> simp [rejectOfAssigns, h]

theorem Line.wf_iff {l : Line} : l.wf = true ↔ l.reject = none := beq_iff_eq

end Sys2Proof

namespace Sys2Proof.Machine

/-! ### What a line assembles to -/

theorem assemble_of_reject_none {l : Line} (h : l.reject = none) :
    assemble l = .ok { op := encodeOp (opOfName l.name), inp := l.assigns.foldl Inputs.assign Inputs.zero } := by
  rw [assemble, h]

theorem assemble_of_reject_some {l : Line} {r : LineReject} (h : l.reject = some r) :
    assemble l = .error r := by
  rw [assemble, h]

/-- A line's name matters to its evaluation only by the operation it stands for. -/
theorem assemble_congr_name {n m : OpName} (h : opOfName n = opOfName m) (as : List Assign) :
    assemble ⟨n, as⟩ = assemble ⟨m, as⟩ := by
  unfold assemble
  rw [h]
  rfl

/-- Settles O59: a pseudo-operation's name stands for the operation of its row. -/
theorem pseudoOperationsExpand : Obligations.PseudoOperationsExpand := by
  intro p i as hrow
  have hp : pseudoExpansion p = i := by
    simp only [List.mem_cons, Prod.mk.injEq, List.not_mem_nil, or_false] at hrow
    obtain ⟨rfl, rfl⟩ | ⟨rfl, rfl⟩ | ⟨rfl, rfl⟩ | ⟨rfl, rfl⟩ | ⟨rfl, rfl⟩ | ⟨rfl, rfl⟩ := hrow <;> rfl
  exact ⟨assemble_congr_name (n := .pseudo p) (m := .core i) hp as, hp⟩

theorem hostStep_line_of_ok {l : Line} {e : Evaluation} (h : assemble l = .ok e) (s : State) :
    hostStep (.line l) s = .next (s.present e) := by
  simp only [hostStep, h]

theorem hostStep_line_of_error {l : Line} {r : LineReject} (h : assemble l = .error r) (s : State) :
    hostStep (.line l) s = .refused (.lineRejected r) := by
  simp only [hostStep, h]

/-- Settles O60: the host side asks the assembler, which asks `Line.reject`; a line of one number is turned away
exactly when the number is outside its port's range. -/
theorem onlyIllFormedLinesRefused : Obligations.OnlyIllFormedLinesRefused := by
  refine ⟨fun l s hwf => ?_, fun l s hwf => ?_, fun n p v hv => ?_, fun n p v h0 hv => ?_⟩
  · have h := assemble_of_reject_none (Line.wf_iff.mp hwf)
    exact ⟨_, h, hostStep_line_of_ok h s⟩
  · have hne : l.reject ≠ none := fun h => by simp [Line.wf_iff.mpr h] at hwf
    obtain ⟨r, hr⟩ := Option.ne_none_iff_exists'.mp hne
    exact ⟨r, hr, hostStep_line_of_error (assemble_of_reject_some hr) s⟩
  · exact (rejectOfAssigns_singleton _).trans (Assign.reject_num_tooWide hv)
  · have hfits := Assign.reject_num_eq_none_iff.mpr ⟨p.least_nonpos.trans h0, hv⟩
    exact ⟨_, assemble_of_reject_none ((rejectOfAssigns_singleton _).trans hfits), rfl⟩

/-! ### The line that writes every port -/

theorem Frame.ofList_bytes (f : Frame) : Frame.ofList f.bytes = some f := rfl

theorem Inputs.assign_fin_bytes (i : Inputs) (f : Frame) :
    i.assign (.fin (f.bytes.map BitVec.toNat)) = { i with fin := f } := by
  have h : (f.bytes.map BitVec.toNat).map (BitVec.ofNat 8) = f.bytes := by
    simp [List.map_map, Function.comp_def]
  simp only [Inputs.assign, h, Frame.ofList_bytes]

theorem disassemble_assign_reject (e : Evaluation) : ∀ a ∈ (disassemble e).assigns, a.reject = none := by
  simp only [disassemble, List.cons_append, List.nil_append, List.forall_mem_cons]
  exact ⟨Assign.reject_num_toNat .mod _, Assign.reject_num_toNat .typ _, Assign.reject_num_toNat .grp _,
    Assign.reject_num_toNat .mask _, Assign.reject_num_toNat .idin _, Assign.reject_num_toNat .u0 _,
    Assign.reject_num_toNat .u1 _, Assign.reject_num_toNat .u2 _, Assign.reject_num_toInt .s0 rfl _,
    Assign.reject_num_toInt .s1 rfl _, Assign.reject_num_toInt .s2 rfl _, Assign.reject_num_toInt .s3 rfl _,
    Assign.reject_num_toInt .s4 rfl _, Assign.reject_num_toInt .s5 rfl _, Assign.reject_fin_bytes _,
    List.forall_mem_nil _⟩

theorem disassemble_ports_distinct (e : Evaluation) :
    (disassemble e).assigns.Pairwise fun a b => a.samePort b = false := by
  simp [disassemble, Assign.samePort]

theorem disassemble_reject (e : Evaluation) : (disassemble e).reject = none :=
  rejectOfAssigns_eq_none (disassemble_assign_reject e) (disassemble_ports_distinct e)

/-- Every port is written once, so nothing of the zeros the assignments start from is left. -/
theorem foldl_assign_disassemble (e : Evaluation) :
    (disassemble e).assigns.foldl Inputs.assign Inputs.zero = e.inp := by
  simp only [disassemble, List.cons_append, List.nil_append, List.foldl_cons, List.foldl_nil,
    Inputs.assign_fin_bytes]
  simp only [Inputs.assign, Inputs.setNum, BitVec.ofInt_natCast, BitVec.ofNat_toNat, BitVec.setWidth_eq,
    BitVec.ofInt_toInt]

/-- Settles O58: the line's values fit their ports, no port is given twice, and each value is read back. -/
theorem assembleDisassemble : Obligations.AssembleDisassemble := by
  intro e
  have hop : encodeOp (opOfName (disassemble e).name) = e.op := encodeOp_decodeOp e.op
  refine ⟨Line.wf_iff.mpr (disassemble_reject e), ?_⟩
  rw [assemble_of_reject_none (disassemble_reject e), foldl_assign_disassemble, hop]

end Sys2Proof.Machine

/-! SUPPORT. The columns of spec/30_encoding.md R65: an operation's outputs are a function of the ports it reads,
and every port it does not drive is 0; and the kind codes of R70. -/

namespace Sys2Proof.Machine

/-- Settles O45: the table of R70 code by code, and soundness of what an operation drives. -/
theorem kindCodesAreNamed : Obligations.KindCodesAreNamed := by
  refine ⟨by decide, fun k => ?_, by decide, fun i s t h => (exec_sound h).out_sound.kind_named⟩
  cases k <;> rfl

/-! ### Ports read -/

/-- Two states driven with equal outputs show equal outputs, however the states differ. -/
theorem State.drive_out_congr {s t u w : State} {o o' : Outputs} (hu : s.drive o = .next u)
    (hw : t.drive o' = .next w) (h : o = o') : u.out = w.out := by
  obtain rfl := State.drive_next.mp hu
  obtain rfl := State.drive_next.mp hw
  exact h

/-- Settles O47: each operation drives an expression in the ports of its "reads" column. -/
theorem outputsDependOnlyOnReadPorts : Obligations.OutputsDependOnlyOnReadPorts := by
  intro i s t u w hr hu hw
  cases i with
  | nop | reserved0C | reserved0D | reserved0E | reserved0F | reserved16 | reserved17 | reserved19
  | reserved1A | reserved1B | reserved1C | reserved1D | reserved1E | reserved1F =>
    exact State.drive_out_congr hu hw rfl
  | crcGen | crcCheck | encCellv | decCellv | encU16 | decU16 | encTemp | decTemp | makeId | decMod
  | decType | bldBal | bldCellv | bldTemp | bldPack1 | bldPack2 | bldPack3 | decodeFrame =>
    simp only [readsAgree] at hr
    exact State.drive_out_congr hu hw (by simp only [hr])

/-! ### Ports driven -/

/-- A valid per-module frame is decoded on top of outputs whose identifier and `bad_op` stay. -/
theorem decodeModuleFrame_keeps (var : Variant) (id : Word) (f : Frame) (o : Outputs) :
    (decodeModuleFrame var id f o).idout = o.idout ∧ (decodeModuleFrame var id f o).badOp = o.badOp := by
  unfold decodeModuleFrame
  obtain ⟨k, g⟩ := classify var (typeOfId id)
  obtain ⟨-, -, -, -, -, -, hid, hbad⟩ := moduleValues_keeps k g f
    { o with modout := moduleOfId id, typout := typeOfId id, kind := k.code }
  exact ⟨hid, hbad⟩

/-- DECODE_FRAME drives neither an identifier nor `bad_op`, in any branch of R200. -/
theorem decodeFrameOutputs_undriven (var : Variant) (id : Word) (f : Frame) :
    (decodeFrameOutputs var id f).idout = 0 ∧ (decodeFrameOutputs var id f).badOp = false := by
  cases hf : f.crcOk with
  | false =>
    rw [decodeFrameOutputs_invalid hf]
    exact ⟨rfl, rfl⟩
  | true =>
    by_cases h1 : id = pack1Id
    · rw [h1, decodeFrameOutputs_pack1 hf]
      exact ⟨rfl, rfl⟩
    by_cases h2 : id = pack2Id
    · rw [h2, decodeFrameOutputs_pack2 hf]
      exact ⟨rfl, rfl⟩
    by_cases h3 : id = pack3Id
    · rw [h3, decodeFrameOutputs_pack3 hf]
      exact ⟨rfl, rfl⟩
    rw [decodeFrameOutputs_module hf h1 h2 h3]
    exact decodeModuleFrame_keeps var id f _

/-- R65's "drives" column, for the outputs of any next state. -/
theorem exec_drivesOnly {i : Instr} {s t : State} (h : exec i s = .next t) : drivesOnly i t.out := by
  cases i with
  | decodeFrame =>
    obtain rfl := State.drive_next.mp h
    exact decodeFrameOutputs_undriven s.variant s.inp.idin s.inp.fin
  | nop | crcGen | crcCheck | encCellv | decCellv | encU16 | decU16 | encTemp | decTemp | makeId
  | decMod | decType | bldBal | bldCellv | bldTemp | bldPack1 | bldPack2 | bldPack3
  | reserved0C | reserved0D | reserved0E | reserved0F | reserved16 | reserved17 | reserved19
  | reserved1A | reserved1B | reserved1C | reserved1D | reserved1E | reserved1F =>
    cases h
    rfl

/-- Settles O48: every operation answers a next state, with its frame and its "drives" column. -/
theorem undrivenOutputsAreZero : Obligations.UndrivenOutputsAreZero := by
  intro i s
  obtain ⟨o, h⟩ := exec_drives i s
  exact ⟨_, h, exec_drivesOnly h, exec_frame h⟩

end Sys2Proof.Machine

/-! SUPPORT. The CRC engine (spec/40_crc.md): the bit step in arithmetic, the bit-serial engine, the CRC as an affine
function of the data bytes, and what a single-bit error does to the check. -/

namespace Sys2Proof.Machine

/-! ### The bit step in arithmetic (R101) -/

theorem getLsbD_top (c : Half) : c.getLsbD 15 = decide (2 ^ 15 ≤ c.toNat) :=
  (BitVec.msb_eq_getLsbD_last c).symm.trans (BitVec.msb_eq_decide c)

theorem crcStep_toNat (c : Half) : (crcStep c).toNat =
    if 2 ^ 15 ≤ c.toNat then (2 * c.toNat % 2 ^ 16) ^^^ 0x1021 else 2 * c.toNat := by
  have hshift : (c <<< 1).toNat = 2 * c.toNat % 2 ^ 16 := by
    rw [BitVec.toNat_shiftLeft, Nat.shiftLeft_eq, pow_one, Nat.mul_comm]
  simp only [crcStep, getLsbD_top, decide_eq_true_eq]
  split
  · rw [BitVec.toNat_xor, hshift]
    rfl
  · rw [hshift]
    omega

/-- The polynomial is odd and a shifted register is even, so no bit leaves the register unnoticed. -/
theorem eq_zero_of_crcStep {c : Half} (h : crcStep c = 0#16) : c = 0#16 := by
  have hnat : (crcStep c).toNat = 0 := congrArg BitVec.toNat h
  rw [crcStep_toNat] at hnat
  split at hnat
  · rw [Nat.xor_eq_zero_iff] at hnat
    omega
  · exact BitVec.eq_of_toNat_eq (by simpa using hnat)

theorem eq_zero_of_crcSteps {n : Nat} {c : Half} (h : crcSteps n c = 0#16) : c = 0#16 := by
  induction n generalizing c with
  | zero => exact h
  | succ n ih => exact eq_zero_of_crcStep (ih h)

theorem crcSteps_eq_iterate (n : Nat) (c : Half) : crcSteps n c = crcStep^[n] c := by
  induction n generalizing c with
  | zero => rfl
  | succ n ih => exact ih (crcStep c)

/-! ### The bytes (R100, R44) -/

theorem byteAtTop_toNat (b : Byte) : (b.setWidth 16 <<< 8 : Half).toNat = b.toNat * 256 := by
  have := b.isLt
  simp only [BitVec.toNat_shiftLeft, BitVec.toNat_setWidth, Nat.shiftLeft_eq]
  omega

theorem crcByte_eq_iterate (c : Half) (b : Byte) :
    crcByte c b = crcStep^[8] (c ^^^ BitVec.ofNat 16 (b.toNat * 256)) := by
  rw [crcByte, crcSteps_eq_iterate, ← byteAtTop_toNat, BitVec.ofNat_toNat, BitVec.setWidth_eq]

/-- Settles O8: appending a byte is one more byte step, and eight bit steps are the bit step iterated. -/
theorem crcTakesBytesMsbFirst : Obligations.CrcTakesBytesMsbFirst :=
  ⟨rfl, fun bs b => (crc16_append bs b).trans (crcByte_eq_iterate (crc16 bs) b)⟩

/-! ### The bit-serial engine (R268) -/

/-- The `n` highest bits of a 16-bit value, highest first. -/
def topBits : Nat → Half → List Bool
  | 0, _ => []
  | n + 1, x => x.getLsbD 15 :: topBits n (x <<< 1)

/-- Of a value already added to the register, a bit step uses up the top bit only: the rest moves up and waits. -/
theorem crcStep_xor_eq_crcBit (c x : Half) :
    crcStep (c ^^^ x) = crcBit c (x.getLsbD 15) ^^^ (x <<< 1) := by
  rw [crcStep_xor, crcBit, crcStep.eq_1 x]
  cases x.getLsbD 15 with
  | false => rfl
  | true =>
    have htop : crcStep 0x8000#16 = 0x1021#16 := by decide
    rw [if_pos rfl, if_pos rfl, crcStep_xor, htop, BitVec.xor_comm (x <<< 1), BitVec.xor_assoc]

theorem crcSteps_xor_eq_foldl_crcBit (n : Nat) (c x : Half) :
    crcSteps n (c ^^^ x) = (topBits n x).foldl crcBit c ^^^ (x <<< n) := by
  induction n generalizing c x with
  | zero => simp [crcSteps, topBits]
  | succ n ih =>
    rw [crcSteps, crcStep_xor_eq_crcBit, ih, ← BitVec.shiftLeft_add, Nat.add_comm 1 n]
    rfl

theorem topBits_byteAtTop (b : Byte) : topBits 8 (b.setWidth 16 <<< 8) = msbFirst b := by
  simp [topBits, msbFirst]

theorem foldl_crcBit_msbFirst (c : Half) (b : Byte) : (msbFirst b).foldl crcBit c = crcByte c b := by
  have hgone : (b.setWidth 16 <<< 8 : Half) <<< 8 = 0#16 := by
    rw [← BitVec.shiftLeft_add]
    exact BitVec.shiftLeft_eq_zero (by decide)
  rw [crcByte, crcSteps_xor_eq_foldl_crcBit, topBits_byteAtTop, hgone, BitVec.xor_zero]

theorem crcSerial_eq_crc16 (bs : List Byte) : crcSerial bs = crc16 bs := by
  simp only [crcSerial, List.foldl_flatMap, foldl_crcBit_msbFirst, crc16]

/-- Settles O9: the engines agree byte by byte, from any value of the register. -/
theorem bitSerialEngineAgrees : Obligations.BitSerialEngineAgrees :=
  ⟨crcStep_toNat, fun _ => rfl, crcSerial_eq_crc16⟩

/-! ### CRC_GEN and CRC_CHECK (R104, R105) -/

theorem Payload.withTrailer_eq (p : Payload) (c : Half) :
    p.withTrailer c = ⟨p.p0, p.p1, p.p2, p.p3, p.p4, p.p5, Claims.high c, Claims.low c⟩ := by
  rw [← hiByte_eq, ← loByte_eq]
  rfl

/-- The 48 bit steps of six zero bytes. -/
theorem crc16_six_zeros : crc16 [0, 0, 0, 0, 0, 0] = 0x0E10#16 := by
  simp [crc16, crcInit, crcByte, crcSteps, crcStep]

/-- The 48 bit steps of six 0xFF bytes. -/
theorem crc16_six_ones : crc16 [0xFF, 0xFF, 0xFF, 0xFF, 0xFF, 0xFF] = 0x99CF#16 := by
  simp [crc16, crcInit, crcByte, crcSteps, crcStep]

/-- Settles O10: the trailer `Payload.withTrailer` writes is the high byte, then the low one. -/
theorem crcGenSealsTheFrame : Obligations.CrcGenSealsTheFrame := by
  refine ⟨fun s => ?_, crc16_six_zeros, crc16_six_ones⟩
  show s.drive { Outputs.zero with
    crc := s.inp.fin.payload.crc, fout := s.inp.fin.payload.withTrailer s.inp.fin.payload.crc } = _
  rw [Payload.withTrailer_eq]
  rfl

theorem exec_crcCheck_of_crcOk {s : State} {b : Bool} (h : s.inp.fin.crcOk = b) :
    exec .crcCheck s =
      .next { s with out := { Outputs.zero with crc := s.inp.fin.payload.crc, ok := b } } :=
  h ▸ rfl

/-- The check in arithmetic: the trailer's first byte is the high one (R105). -/
theorem Frame.crcOk_eq_decide (f : Frame) :
    f.crcOk = decide (f.payload.crc.toNat = f.b6.toNat * 256 + f.b7.toNat) := by
  rw [Bool.eq_iff_iff, f.crcOk_iff, decide_eq_true_iff, ← append_toNat, BitVec.toNat_inj]
  rfl

/-- A byte-swapped trailer is not the CRC, unless its two bytes are equal (R105). -/
theorem crcOk_swapped {p : Payload} (h : p.crc.toNat / 256 ≠ p.crc.toNat % 256) :
    (⟨p.p0, p.p1, p.p2, p.p3, p.p4, p.p5, Claims.low p.crc, Claims.high p.crc⟩ : Frame).crcOk = false := by
  have := p.crc.isLt
  rw [Frame.crcOk_eq_decide, decide_eq_false_iff_not]
  change ¬ p.crc.toNat = _
  simp only [Claims.low, Claims.high, BitVec.toNat_ofNat]
  omega

/-! ### The CRC under errors (R106) -/

theorem Payload.xor_bytes (p e : Payload) : (p.xor e).bytes = List.zipWith (· ^^^ ·) p.bytes e.bytes := rfl

theorem Payload.zero_xor (e : Payload) : Payload.zero.xor e = e := by
  simp [Payload.zero, Payload.xor]

/-- Byte sequences of one length, each with its own start of the register, add up. -/
theorem foldl_crcByte_zipWith_xor {xs ys : List Byte} (h : xs.length = ys.length) (a b : Half) :
    (List.zipWith (· ^^^ ·) xs ys).foldl crcByte (a ^^^ b) =
      xs.foldl crcByte a ^^^ ys.foldl crcByte b := by
  induction xs generalizing ys a b with
  | nil =>
    obtain rfl := List.length_eq_zero_iff.mp h.symm
    rfl
  | cons x xs ih =>
    cases ys with
    | nil => cases h
    | cons y ys =>
      simp only [List.zipWith_cons_cons, List.foldl_cons, crcByte_xor]
      exact ih (Nat.succ.inj h) _ _

theorem crc_xor_eq_foldl (p e : Payload) : (p.xor e).crc = p.crc ^^^ e.bytes.foldl crcByte 0#16 := by
  have h := foldl_crcByte_zipWith_xor (xs := p.bytes) (ys := e.bytes) rfl crcInit 0#16
  rwa [BitVec.xor_zero, ← Payload.xor_bytes] at h

/-- The linear part of the CRC is the register started at 0 instead of 0xFFFF. -/
theorem crcDelta_eq_foldl (e : Payload) : crcDelta e = e.bytes.foldl crcByte 0#16 := by
  have h := crc_xor_eq_foldl Payload.zero e
  rw [Payload.zero_xor] at h
  rw [crcDelta, h, BitVec.xor_comm, ← BitVec.xor_assoc, BitVec.xor_self, BitVec.zero_xor]

theorem crc_xor (p e : Payload) : (p.xor e).crc = p.crc ^^^ crcDelta e := by
  rw [crcDelta_eq_foldl, crc_xor_eq_foldl]

theorem crcDelta_xor (e e' : Payload) : crcDelta (e.xor e') = crcDelta e ^^^ crcDelta e' := by
  simp only [crcDelta_eq_foldl, Payload.xor_bytes]
  exact foldl_crcByte_zipWith_xor (xs := e.bytes) (ys := e'.bytes) rfl 0#16 0#16

theorem crcDelta_zero : crcDelta Payload.zero = 0 := BitVec.xor_self

/-- The criterion: a valid frame stays valid exactly when the data error moves the CRC by the trailer error. -/
theorem crcOk_xor_iff {f err : Frame} (h : f.crcOk = true) :
    (f.xor err).crcOk = true ↔ crcDelta err.payload = err.trailer := by
  rw [Frame.crcOk_iff, Frame.xor_payload, Frame.xor_trailer, crc_xor, f.crcOk_iff.mp h, BitVec.xor_right_inj]

/-! ### Single-bit errors (R106) -/

theorem eq_zero_of_crcByte_zero_left {b : Byte} (h : crcByte 0#16 b = 0#16) : b = 0 := by
  have htop := eq_zero_of_crcSteps h
  rw [BitVec.zero_xor] at htop
  have hnat := byteAtTop_toNat b
  rw [htop] at hnat
  exact BitVec.eq_of_toNat_eq (by simpa using hnat.symm)

theorem eq_zero_of_crcByte_zero_right {c : Half} (h : crcByte c 0 = 0#16) : c = 0#16 := by
  simpa using eq_zero_of_crcSteps h

theorem foldl_crcByte_zeros (n : Nat) : (List.replicate n (0 : Byte)).foldl crcByte 0#16 = 0#16 := by
  induction n with
  | zero => rfl
  | succ n ih => exact ih

theorem eq_zero_of_foldl_crcByte_zeros {n : Nat} {c : Half}
    (h : (List.replicate n (0 : Byte)).foldl crcByte c = 0#16) : c = 0#16 := by
  induction n generalizing c with
  | zero => exact h
  | succ n ih => exact eq_zero_of_crcByte_zero_right (ih h)

/-- An error confined to one byte moves the CRC: zeros before it leave the register at 0, and zeros after it
cannot bring it back there. -/
theorem crcDelta_ne_zero_of_one_byte {e : Payload} {m n : Nat} {b : Byte} (hb : b ≠ 0)
    (h : e.bytes = List.replicate m 0 ++ b :: List.replicate n 0) : crcDelta e ≠ 0 := by
  rw [crcDelta_eq_foldl, h, List.foldl_append, foldl_crcByte_zeros, List.foldl_cons]
  exact fun h0 => hb (eq_zero_of_crcByte_zero_left (eq_zero_of_foldl_crcByte_zeros h0))

/-- Bits 15:0 of the flat form are the trailer. -/
theorem oneBit_of_lt : ∀ k : Fin 64, k.val < 16 →
    (Frame.oneBit k).payload = Payload.zero ∧ (Frame.oneBit k).trailer ≠ 0 := by
  decide

/-- Bits 63:16 of the flat form are the data bytes, byte 0 highest: the bit falls in one of them. -/
theorem oneBit_of_ge : ∀ k : Fin 64, 16 ≤ k.val →
    (Frame.oneBit k).payload.bytes =
      List.replicate (7 - k.val / 8) 0 ++ 1#8 <<< (k.val % 8) :: List.replicate (k.val / 8 - 2) 0 ∧
    1#8 <<< (k.val % 8) ≠ 0 ∧ (Frame.oneBit k).trailer = 0 := by
  decide

theorem crcDelta_oneBit_ne_zero (k : Fin 64) (hk : 16 ≤ k.val) :
    crcDelta (Frame.oneBit k).payload ≠ 0 := by
  obtain ⟨hbytes, hbit, -⟩ := oneBit_of_ge k hk
  exact crcDelta_ne_zero_of_one_byte hbit hbytes

/-- A flipped trailer bit leaves the CRC where it was, and a flipped data bit moves it while the trailer stays. -/
theorem crcOk_xor_oneBit {f : Frame} (h : f.crcOk = true) (k : Fin 64) :
    (f.xor (Frame.oneBit k)).crcOk = false := by
  rw [Bool.eq_false_iff, ne_eq, crcOk_xor_iff h]
  obtain hlt | hge := Nat.lt_or_ge k.val 16
  · obtain ⟨hpayload, htrailer⟩ := oneBit_of_lt k hlt
    rw [hpayload, crcDelta_zero]
    exact htrailer.symm
  · obtain ⟨-, -, htrailer⟩ := oneBit_of_ge k hge
    rw [htrailer]
    exact crcDelta_oneBit_ne_zero k hge

/-- Settles O12: the CRC is affine in the data bytes, and a single bit is an error confined to one byte. -/
theorem crcErrorDetectionLaws : Obligations.CrcErrorDetectionLaws := by
  refine ⟨fun s p h => ?_, crc_xor, crcDelta_xor, crcDelta_zero, fun f err => crcOk_xor_iff,
    crcDelta_oneBit_ne_zero, fun f k h => crcOk_xor_oneBit h k⟩
  rw [exec_crcCheck_of_crcOk (h ▸ p.withTrailer_crcOk), h, Payload.withTrailer_payload]

/-- Settles O11: the check in arithmetic, and a frame that fails it for each corner case. -/
theorem crcCheckComparesTheTrailer : Obligations.CrcCheckComparesTheTrailer := by
  refine ⟨fun s => exec_crcCheck_of_crcOk s.inp.fin.crcOk_eq_decide, fun s h => ?_, fun s p hne h => ?_,
    fun s f k hf h => ?_⟩
  · have hcrc : Frame.zero.payload.crc = 0x0E10#16 := crc16_six_zeros
    have hok : Frame.zero.crcOk = false := by rw [Frame.crcOk, hcrc]; rfl
    rw [exec_crcCheck_of_crcOk (h ▸ hok), h, hcrc]
    rfl
  · rw [exec_crcCheck_of_crcOk (h ▸ crcOk_swapped hne), h]
    rfl
  · exact ⟨_, exec_crcCheck_of_crcOk (h ▸ crcOk_xor_oneBit ((crcOk_iff_valid f).mpr hf) k)⟩

/-- DECODE_FRAME turns an invalid frame away (R202), whatever the identifier and VARIANT. -/
theorem exec_decodeFrame_invalid {s : State} (h : s.inp.fin.crcOk = false) :
    exec .decodeFrame s =
      .next { s with out := { Outputs.zero with crc := s.inp.fin.payload.crc } } :=
  congrArg s.drive (decodeFrameOutputs_invalid h s.variant s.inp.idin)

/-- Settles O13: the flipped bit makes the frame invalid, and the CRC gate turns it away. -/
theorem singleBitErrorNeverDecodes : Obligations.SingleBitErrorNeverDecodes :=
  fun _ f k hf h => exec_decodeFrame_invalid (h ▸ crcOk_xor_oneBit ((crcOk_iff_valid f).mpr hf) k)

end Sys2Proof.Machine

/-! SUPPORT. The field codecs (spec/41_field_codecs.md): the claims' bytes and values as numbers, the six codec
operations, and the round trips of R131. -/

namespace Sys2Proof.Machine

/-! ### Cell voltages (R120, R121, R125, R126) -/

@[simp] theorem cellLow_toNat (v : Half) : (Claims.cellLow v).toNat = v.toNat % 256 := by
  simp [Claims.cellLow]

@[simp] theorem cellHigh_toNat (v : Half) : (Claims.cellHigh v).toNat = v.toNat / 256 % 64 := by
  rw [Claims.cellHigh, BitVec.toNat_ofNat]
  omega

@[simp] theorem cellValue_toNat (a b : Byte) :
    (Claims.cellValue a b).toNat = a.toNat + b.toNat % 64 * 256 := by
  have := a.isLt
  rw [Claims.cellValue, BitVec.toNat_ofNat]
  omega

/-- Byte A keeps bits 7:0 and byte B bits 13:8, so the value comes back modulo 2^14. -/
theorem decCV_encCV_toNat (v : Half) : (decCV (encCV v).1 (encCV v).2).toNat = v.toNat % 16384 := by
  rw [encCV_eq, decCV_eq, cellValue_toNat, cellLow_toNat, cellHigh_toNat]
  omega

/-- The encoder sees a value through its remainder modulo 2^14 alone. -/
theorem encCV_congr {v w : Half} (h : v.toNat % 16384 = w.toNat % 16384) : encCV v = encCV w := by
  rw [encCV_eq, encCV_eq]
  refine Prod.ext (BitVec.eq_of_toNat_eq ?_) (BitVec.eq_of_toNat_eq ?_)
  · simp only [cellLow_toNat]
    omega
  · simp only [cellHigh_toNat]
    omega

/-- Settles O14: `encCV` in arithmetic, on the first two bytes of `fout`. -/
theorem encCellvResult : Obligations.EncCellvResult :=
  fun s => congrArg (fun ab => s.drive (twoBytesOut ab)) (encCV_eq s.inp.u0)

/-- Settles O15: `decCV` in arithmetic; the mask 0x3F is the remainder modulo 64. -/
theorem decCellvResult : Obligations.DecCellvResult :=
  fun s => congrArg (fun v => s.drive { Outputs.zero with v0 := v })
    (decCV_eq s.inp.fin.b0 s.inp.fin.b1)

/-- Settles O19: bits 15:14 are lost in the remainder modulo 16384, and byte B is one modulo 64. -/
theorem cellVoltageEncoderWraps : Obligations.CellVoltageEncoderWraps := by
  refine fun v => ⟨encCV_eq v, encCV_congr ?_, ?_⟩
  · rw [BitVec.toNat_ofNat]
    omega
  · rw [encCV_eq, cellHigh_toNat]
    exact Nat.mod_lt _ (by decide)

/-! ### Plain 16-bit values (R122, R127, R128) -/

/-- The trailer of a frame holds a value in the plain codec's form (R43), so reading it back is the round trip. -/
theorem decU16_encU16 (v : Half) : decU16 (encU16 v).1 (encU16 v).2 = v :=
  Payload.withTrailer_trailer default v

/-- Settles O16: `encU16` and `decU16` in arithmetic. -/
theorem plainCodecResults : Obligations.PlainCodecResults :=
  fun s => ⟨congrArg (fun ab => s.drive (twoBytesOut ab)) (encU16_eq s.inp.u0),
    congrArg (fun v => s.drive { Outputs.zero with v0 := v })
      (decU16_eq s.inp.fin.b0 s.inp.fin.b1)⟩

/-! ### Temperatures (R123, R124, R129, R130) -/

@[simp] theorem tempByte_toNat (s : Half) :
    (Claims.tempByte s).toNat = min 255 (s.toInt + 40).toNat := by
  rw [Claims.tempByte, BitVec.toNat_ofNat]
  omega

theorem tempByte_eq_zero {s : Half} (h : s.toInt ≤ -40) : Claims.tempByte s = 0 := by
  apply BitVec.eq_of_toNat_eq
  rw [tempByte_toNat, Int.toNat_of_nonpos (by omega)]
  rfl

theorem tempByte_eq_255 {s : Half} (h : 215 ≤ s.toInt) : Claims.tempByte s = 255 := by
  apply BitVec.eq_of_toNat_eq
  rw [tempByte_toNat, Nat.min_eq_left (by omega)]
  rfl

/-- Every decoded temperature fits in 16 bits: the subtraction does not wrap. -/
theorem decT_toInt (e : Byte) : (decT e).toInt = (e.toNat : Int) - 40 := by
  have := e.isLt
  exact BitVec.toInt_ofInt_eq_self (by decide) (by omega) (by omega)

/-- Between the ends the clamp does nothing, and the offset of 40 is taken back. -/
theorem decT_encT_toInt {s : Half} (hlo : -40 ≤ s.toInt) (hhi : s.toInt ≤ 215) :
    (decT (encT s)).toInt = s.toInt := by
  rw [decT_toInt, encT_eq, tempByte_toNat]
  omega

/-- A byte less 40 lies between the ends, so the clamp leaves every byte as it was. -/
theorem encT_decT (e : Byte) : encT (decT e) = e := by
  have := e.isLt
  apply BitVec.eq_of_toNat_eq
  rw [encT_eq, tempByte_toNat, decT_toInt]
  omega

/-- Settles O17: `encT` in arithmetic, and the claims' byte at the two ends. -/
theorem encTempResult : Obligations.EncTempResult :=
  fun s => ⟨congrArg (fun e => s.drive { Outputs.zero with fout := { Frame.zero with b0 := e } })
    (encT_eq s.inp.s0), tempByte_eq_zero, tempByte_eq_255⟩

/-- Settles O18: `decT` in 16-bit two's complement. -/
theorem decTempResult : Obligations.DecTempResult :=
  fun s => congrArg (fun v => s.drive { Outputs.zero with v0 := v }) (decT_eq s.inp.fin.b0)

/-! ### The round trips (R131) -/

/-- Settles O20: each codec's round trip; up to 16383 the remainder modulo 16384 is the value itself. -/
theorem codecRoundTrips : Obligations.CodecRoundTrips := by
  refine ⟨fun v hv => BitVec.eq_of_toNat_eq ?_, decCV_encCV_toNat, decU16_encU16,
    fun s => decT_encT_toInt, fun s hs => ?_, fun s hs => ?_, encT_decT⟩
  · rw [decCV_encCV_toNat, Nat.mod_eq_of_lt (by omega)]
  · rw [encT_eq, tempByte_eq_zero (by omega)]
  · rw [encT_eq, tempByte_eq_255 (by omega)]

end Sys2Proof.Machine

/-! SUPPORT. The identifier codec (spec/42_identifier.md): the decomposers and the composed identifier's fields
as numbers, the three identifier operations, and the round trip of R156. -/

namespace Sys2Proof.Machine

/-! ### The fields of an identifier as numbers (R68, R151, R152) -/

theorem extractLsb'_toNat_div {w : Nat} (x : BitVec w) (start len : Nat) :
    (x.extractLsb' start len).toNat = x.toNat / 2 ^ start % 2 ^ len := by
  rw [BitVec.extractLsb'_toNat, Nat.shiftRight_eq_div_pow]

/-- The offset 0x60 is taken off bits 15:8 modulo 256, which is to add 160. -/
@[simp] theorem moduleOfId_toNat (i : Word) :
    (moduleOfId i).toNat = (i.toNat / 256 % 256 + 160) % 256 := by
  rw [moduleOfId_eq, BitVec.toNat_sub, extractLsb'_toNat_div, Nat.add_comm]
  rfl

@[simp] theorem typeOfId_toNat (i : Word) : (typeOfId i).toNat = i.toNat % 256 := by
  rw [typeOfId_eq, extractLsb'_toNat_div, Nat.pow_zero, Nat.div_one]
  rfl

/-! ### The round trip (R156) -/

/-- The message type does not carry into the module field, and the offset of that field is taken back. -/
@[simp] theorem moduleOfId_composeId (m t : Byte) : moduleOfId (composeId m t) = m := by
  have := m.isLt
  have := t.isLt
  apply BitVec.eq_of_toNat_eq
  rw [moduleOfId_toNat, composeId_toNat]
  omega

@[simp] theorem typeOfId_composeId (m t : Byte) : typeOfId (composeId m t) = t := by
  have := t.isLt
  apply BitVec.eq_of_toNat_eq
  rw [typeOfId_toNat, composeId_toNat]
  omega

/-- Settles O24: the decomposers are left inverses of the composer, so it is injective. -/
theorem identifierRoundTrip : Obligations.IdentifierRoundTrip := by
  refine ⟨fun m t => ⟨moduleOfId_composeId m t, typeOfId_composeId m t⟩, fun m t m' t' h => ⟨?_, ?_⟩⟩
  · simpa only [moduleOfId_composeId] using congrArg moduleOfId h
  · simpa only [typeOfId_composeId] using congrArg typeOfId h

/-! ### The operations (R153, R154, R155) -/

/-- Bits 16:8: the sum of module number and offset has nine bits, and the message type does not carry into it. -/
theorem composeId_moduleField (m t : Byte) : ((composeId m t).extractLsb' 8 9).toNat = 0x60 + m.toNat := by
  have := m.isLt
  have := t.isLt
  rw [extractLsb'_toNat_div, composeId_toNat]
  omega

/-- Bit 16 is set from module number 0xA0 on. -/
theorem composeId_bit16_iff (m t : Byte) : (composeId m t).getLsbD 16 = true ↔ 0xA0 ≤ m.toNat := by
  have := m.isLt
  have := t.isLt
  rw [BitVec.getLsbD, Nat.testBit_eq_decide_div_mod_eq, decide_eq_true_iff, composeId_toNat]
  omega

/-- Modules 0 to 15 stay within 0x6FFF, and their number is bits 11:8. -/
theorem composeId_of_smallModule {m : Byte} (hm : m.toNat ≤ 15) (t : Byte) :
    (composeId m t).toNat ≤ 0x6FFF ∧ ((composeId m t).extractLsb' 8 4).toNat = m.toNat := by
  have := t.isLt
  rw [extractLsb'_toNat_div, composeId_toNat]
  omega

/-- Settles O21: the driven identifier is the composed one, whose fields are known one by one. -/
theorem makeIdResult : Obligations.MakeIdResult := fun s =>
  ⟨composeId s.inp.mod s.inp.typ, rfl, composeId_toNat _ _,
    (typeOfId_eq _).symm.trans (typeOfId_composeId _ _), composeId_moduleField _ _,
    high_bits_zero_of_lt ((composeId_range _ _).2.trans_lt (by decide)), composeId_bit16_iff _ _,
    fun hm => composeId_of_smallModule hm _⟩

/-- Settles O22: `moduleOfId` in arithmetic, whatever the identifier. -/
theorem decModResult : Obligations.DecModResult := fun s =>
  congrArg (fun m => s.drive { Outputs.zero with modout := m })
    (BitVec.eq_of_toNat_eq (by rw [moduleOfId_toNat, BitVec.toNat_ofNat, Nat.mod_mod]))

/-- Settles O23: `typeOfId` in arithmetic, whatever the identifier. -/
theorem decTypeResult : Obligations.DecTypeResult := fun s =>
  congrArg (fun t => s.drive { Outputs.zero with typout := t })
    (BitVec.eq_of_toNat_eq (by rw [typeOfId_toNat, BitVec.toNat_ofNat, Nat.mod_mod]))

end Sys2Proof.Machine

/-! SUPPORT. The frame builders (spec/43_frame_builders.md): every builder ends in `finish` (R170), whose frame
passes CRC_CHECK; the six builders in the claims' words; and the identifiers of legal per-module frames. -/

namespace Sys2Proof.Machine

/-! ### What each builder drives (R174 to R179) -/

theorem exec_bldBal (s : State) : exec .bldBal s =
    let b := wordBytes s.inp.mask
    s.drive (finish (composeId (offsetModule s.variant s.inp.mod) balType)
      ⟨0xFF, 0xFF, b.1, b.2.1, b.2.2.1, b.2.2.2⟩) := rfl

theorem exec_bldCellv (s : State) : exec .bldCellv s =
    s.drive (finish (composeId (offsetModule s.variant s.inp.mod) (cellType s.variant s.inp.grp))
      (threeFields (encCV s.inp.u0) (encCV s.inp.u1) (encCV s.inp.u2))) := rfl

theorem exec_bldTemp (s : State) : exec .bldTemp s =
    s.drive (finish (composeId (offsetModule s.variant s.inp.mod) (tempType s.inp.grp))
      ⟨encT s.inp.s0, encT s.inp.s1, encT s.inp.s2, encT s.inp.s3, encT s.inp.s4, encT s.inp.s5⟩) := rfl

theorem exec_bldPack1 (s : State) : exec .bldPack1 s =
    s.drive (finish pack1Id (threeFields (encU16 s.inp.u0) (encCV s.inp.u1) (encCV s.inp.u2))) := rfl

theorem exec_bldPack2 (s : State) : exec .bldPack2 s =
    s.drive (finish pack2Id (threeFields (encCV s.inp.u0) (encU16 s.inp.u1) (encU16 s.inp.u2))) := rfl

theorem exec_bldPack3 (s : State) : exec .bldPack3 s =
    s.drive (finish pack3Id ⟨encT s.inp.s0, encT s.inp.s1, encT s.inp.s2, 0xFF, 0xFF, 0xFF⟩) := rfl

/-- The common end of the builders (R170). -/
theorem exec_builder {i : Instr} (s : State)
    (hi : i ∈ [.bldBal, .bldCellv, .bldTemp, .bldPack1, .bldPack2, .bldPack3]) :
    ∃ (id : Word) (p : Payload), exec i s = s.drive (finish id p) := by
  simp only [List.mem_cons, List.not_mem_nil, or_false] at hi
  obtain rfl | rfl | rfl | rfl | rfl | rfl := hi
  · exact ⟨_, _, exec_bldBal s⟩
  · exact ⟨_, _, exec_bldCellv s⟩
  · exact ⟨_, _, exec_bldTemp s⟩
  · exact ⟨_, _, exec_bldPack1 s⟩
  · exact ⟨_, _, exec_bldPack2 s⟩
  · exact ⟨_, _, exec_bldPack3 s⟩

/-! ### The frame offered to CRC_CHECK (R170, R267) -/

/-- CRC_CHECK takes a valid frame that the host copies from the output ports to the input ports. -/
theorem step_offer_crcCheck {t : State} (h : t.out.fout.crcOk = true) :
    step (t.offer (encodeOp .crcCheck) t.message) =
      .next { t.offer (encodeOp .crcCheck) t.message with
        out := { Outputs.zero with crc := t.out.fout.payload.crc, ok := true } } :=
  (step_eq_exec (decodeOp_encodeOp .crcCheck)).trans (exec_crcCheck_of_crcOk h)

/-- Settles O32: the frame of `finish` carries the CRC of its own data bytes. -/
theorem builderFramesPassCrcCheck : Obligations.BuilderFramesPassCrcCheck := by
  intro i s hi
  obtain ⟨id, p, h⟩ := exec_builder s hi
  exact ⟨_, _, h, rfl, rfl, rfl, step_offer_crcCheck p.withTrailer_crcOk, rfl⟩

/-! ### Identifiers of per-module frames (R181) -/

/-- The pack identifiers have message types 0x00, 0x10 and 0x20, whose low nibble is 0. -/
theorem composeId_perModuleId {t : Byte} (ht : t.toNat % 16 ≠ 0) (m : Byte) :
    Claims.PerModuleId (composeId m t) := by
  have hne {id : Word} (hid : (typeOfId id).toNat % 16 = 0) : composeId m t ≠ id := fun h =>
    ht (by rwa [← h, typeOfId_composeId] at hid)
  exact ⟨hne (by decide), hne (by decide), hne (by decide)⟩

/-- A legal group's type is 2 to 9 in SMALL; in EXT its low nibble is 2 plus a remainder modulo 12 (R172). -/
theorem cellType_low_nibble {var : Variant} {g : Byte} (h : legalCellGroup var g = true) :
    (cellType var g).toNat % 16 ≠ 0 := by
  rw [cellType_toNat]
  cases var with
  | small =>
    have hg : g.toNat ≤ 7 := of_decide_eq_true h
    simp only [Claims.sentCellType]
    omega
  | ext =>
    simp only [Claims.sentCellType]
    omega

/-- Legal temperature groups have types 0x0D to 0x0F (R173). -/
theorem tempType_low_nibble {var : Variant} {g : Byte} (h : legalTempGroup var g = true) :
    (tempType g).toNat % 16 ≠ 0 := by
  have hg : g.toNat ≤ 2 := by
    cases var with
    | small => exact of_decide_eq_true h
    | ext => exact (of_decide_eq_true h).trans (by decide)
  rw [tempType_toNat, Claims.sentTempType]
  omega

/-- Settles O33: a legal type's low nibble is not 0, and the three illegal groups have the types of the pack
identifiers. -/
theorem legalFramesAvoidPackIdentifiers : Obligations.LegalFramesAvoidPackIdentifiers := by
  have h14 : cellType .small 14 = 0x10#8 := by decide
  have h30 : cellType .small 30 = 0x20#8 := by decide
  have h15 : tempType 15 = 0x00#8 := by decide
  refine ⟨fun i s hi => ?_, h14, h30, h15, fun var m hm => ?_⟩
  · obtain rfl | ⟨rfl, hg⟩ | ⟨rfl, hg⟩ := hi
    · exact ⟨_, exec_bldBal s, composeId_perModuleId (by decide) _⟩
    · exact ⟨_, exec_bldCellv s, composeId_perModuleId (cellType_low_nibble hg) _⟩
    · exact ⟨_, exec_bldTemp s, composeId_perModuleId (tempType_low_nibble hg) _⟩
  · rw [hm, h14, h30, h15]
    decide

/-! ### The builders in the claims' words -/

/-- The identifier a per-module builder sends (R150, R171). -/
theorem composeId_offsetModule_toNat (var : Variant) (m t : Byte) :
    (composeId (offsetModule var m) t).toNat = 0x6000 + Claims.sentModule var m * 256 + t.toNat := by
  rw [composeId_toNat, offsetModule_toNat]

/-- Settles O26: the mask's bytes by division, behind the padding. -/
theorem bldBalResult : Obligations.BldBalResult := by
  intro s
  rw [exec_bldBal, wordBytes_eq, drive_finish, composeId_offsetModule_toNat]
  rfl

/-- Settles O27: three fields of the cell-voltage codec. -/
theorem bldCellvResult : Obligations.BldCellvResult := by
  intro s
  rw [exec_bldCellv, drive_finish, composeId_offsetModule_toNat, cellType_toNat, encCV_eq, encCV_eq, encCV_eq]
  rfl

/-- Settles O28: six bytes of the temperature codec. -/
theorem bldTempResult : Obligations.BldTempResult := by
  intro s
  simp only [exec_bldTemp, drive_finish, composeId_offsetModule_toNat, tempType_toNat, encT_eq]

/-- Settles O29: one plain field, then two of the cell-voltage codec. -/
theorem bldPack1Result : Obligations.BldPack1Result := by
  intro s
  rw [exec_bldPack1, drive_finish, encU16_eq, encCV_eq, encCV_eq]
  rfl

/-- Settles O30: one field of the cell-voltage codec, then two plain ones. -/
theorem bldPack2Result : Obligations.BldPack2Result := by
  intro s
  rw [exec_bldPack2, drive_finish, encCV_eq, encU16_eq, encU16_eq]
  rfl

/-- Settles O31: three bytes of the temperature codec, then the padding. -/
theorem bldPack3Result : Obligations.BldPack3Result := by
  intro s
  rw [exec_bldPack3, drive_finish, encT_eq, encT_eq, encT_eq]
  rfl

end Sys2Proof.Machine

/-! SUPPORT. The frame decoder (spec/44_frame_decoder.md): the classification of message types in arithmetic, what
DECODE_FRAME drives for each class of frame, and the round trip from the builders (R215). -/

namespace Sys2Proof.Machine

/-! ### Message types (R69, R208) -/

theorem ofNat_toNat_sub {t : Byte} {n : Nat} (h : n ≤ t.toNat) :
    BitVec.ofNat 8 (t.toNat - n) = t - BitVec.ofNat 8 n := by
  rw [← BitVec.ofNat_sub_ofNat_of_le _ _ (h.trans_lt t.isLt) h, BitVec.ofNat_toNat, BitVec.setWidth_eq]

theorem ofNat_sub_toNat {t : Byte} {n : Nat} (h : t.toNat ≤ n) :
    BitVec.ofNat 8 (n - t.toNat) = BitVec.ofNat 8 n - t := by
  rw [← BitVec.ofNat_sub_ofNat_of_le _ _ t.isLt h, BitVec.ofNat_toNat, BitVec.setWidth_eq]

/-- The classification in SMALL, with the type as a number. -/
theorem classify_small (t : Byte) : classify .small t =
    if t.toNat = 1 then (.bal, 0)
    else if 2 ≤ t.toNat ∧ t.toNat ≤ 9 then (.cellv, BitVec.ofNat 8 (t.toNat - 2))
    else if 13 ≤ t.toNat ∧ t.toNat ≤ 15 then (.temp, BitVec.ofNat 8 (15 - t.toNat))
    else (.unknown, 0) := by
  have h1 : t = 0x01#8 ↔ t.toNat = 1 := BitVec.toNat_eq
  simp only [classify, h1]
  split
  · rfl
  split
  next h => rw [ofNat_toNat_sub h.1]
  split
  next h => rw [ofNat_sub_toNat h.2]
  rfl

/-- The classification in EXT, with the type as a number and its nibbles by division. -/
theorem classify_ext (t : Byte) : classify .ext t =
    if t.toNat = 1 then (.bal, 0)
    else if t.toNat = 13 then (.ambig, 0)
    else if t.toNat = 14 ∨ t.toNat = 15 then (.temp, BitVec.ofNat 8 (15 - t.toNat))
    else if 2 ≤ t.toNat % 16 ∧ t.toNat % 16 ≤ 13 then
      (.cellv, BitVec.ofNat 8 (t.toNat / 16 * 12 + t.toNat % 16 - 2))
    else (.unknown, 0) := by
  have h1 : t = 0x01#8 ↔ t.toNat = 1 := BitVec.toNat_eq
  have h13 : t = 0x0D#8 ↔ t.toNat = 13 := BitVec.toNat_eq
  have h14 : t = 0x0E#8 ↔ t.toNat = 14 := BitVec.toNat_eq
  have h15 : t = 0x0F#8 ↔ t.toNat = 15 := BitVec.toNat_eq
  have hlo : (t.extractLsb' 0 4).toNat = t.toNat % 16 := by
    rw [extractLsb'_toNat_div, Nat.pow_zero, Nat.div_one]
    rfl
  have hhi : (t.extractLsb' 4 4).toNat = t.toNat / 16 := by
    have := t.isLt
    rw [extractLsb'_toNat_div]
    omega
  simp only [classify, h1, h13, h14, h15, hlo, hhi]
  split
  · rfl
  split
  · rfl
  split
  next h => rw [ofNat_sub_toNat (by omega)]
  rfl

/-- R209: type 0x01 is the balancing state in both variants. -/
theorem classify_bal (var : Variant) : classify var 0x01#8 = (.bal, 0) := if_pos rfl

/-- R212. -/
theorem classify_ext_ambig : classify .ext 0x0D#8 = (.ambig, 0) := by decide

theorem classify_small_cellv {t : Byte} {g : Nat} (ht : t.toNat = 2 + g) (hg : g ≤ 7) :
    classify .small t = (.cellv, BitVec.ofNat 8 g) := by
  rw [classify_small, if_neg (by omega), if_pos (by omega), ht, Nat.add_sub_cancel_left]

theorem classify_ext_cellv {t : Byte} {lo hi : Nat} (ht : t.toNat = 16 * hi + lo) (hlo : 2 ≤ lo)
    (hlo' : lo ≤ 13) (h13 : ¬ (hi = 0 ∧ lo = 13)) :
    classify .ext t = (.cellv, BitVec.ofNat 8 (hi * 12 + lo - 2)) := by
  obtain ⟨rfl, rfl⟩ : hi = t.toNat / 16 ∧ lo = t.toNat % 16 := by omega
  rw [classify_ext, if_neg (by omega), if_neg (by omega), if_neg (by omega), if_pos ⟨hlo, hlo'⟩]

/-- R211: the last types of the first sixteen count the groups downwards, three in SMALL and two in EXT. -/
theorem classify_temp {var : Variant} {t : Byte} {g : Nat} (ht : t.toNat + g = 15) (hg : g ≤ 2)
    (hext : var = .ext → g ≤ 1) : classify var t = (.temp, BitVec.ofNat 8 g) := by
  obtain rfl : g = 15 - t.toNat := by omega
  cases var with
  | small => rw [classify_small, if_neg (by omega), if_neg (by omega), if_pos (by omega)]
  | ext =>
    have := hext rfl
    rw [classify_ext, if_neg (by omega), if_neg (by omega), if_pos (by omega)]

theorem classify_small_unknown {t : Byte}
    (h : t.toNat = 0 ∨ (0x0A ≤ t.toNat ∧ t.toNat ≤ 0x0C) ∨ 0x10 ≤ t.toNat) :
    classify .small t = (.unknown, 0) := by
  rw [classify_small, if_neg (by omega), if_neg (by omega), if_neg (by omega)]

theorem classify_ext_unknown {t : Byte} (h : t.toNat = 0 ∨ (0x10 ≤ t.toNat ∧
      (t.toNat % 16 = 0 ∨ t.toNat % 16 = 1 ∨ t.toNat % 16 = 14 ∨ t.toNat % 16 = 15))) :
    classify .ext t = (.unknown, 0) := by
  rw [classify_ext, if_neg (by omega), if_neg (by omega), if_neg (by omega), if_neg (by omega)]

/-- A legal group comes back from its cell-voltage type (R172, R208). -/
theorem classify_cellType {var : Variant} {g : Byte} (h : legalCellGroup var g = true) :
    classify var (cellType var g) = (.cellv, g) := by
  have ht := cellType_toNat var g
  cases var with
  | small =>
    have hg : g.toNat ≤ 7 := of_decide_eq_true h
    simp only [Claims.sentCellType] at ht
    rw [classify_small_cellv (g := g.toNat) (by omega) hg, BitVec.ofNat_toNat, BitVec.setWidth_eq]
  | ext =>
    obtain ⟨hg, h11⟩ : g.toNat ≤ 191 ∧ g.toNat ≠ 11 := by simpa [legalCellGroup] using h
    have hsum : g.toNat / 12 * 12 + (2 + g.toNat % 12) - 2 = g.toNat := by omega
    simp only [Claims.sentCellType] at ht
    rw [classify_ext_cellv (hi := g.toNat / 12) (lo := 2 + g.toNat % 12) (by omega) (by omega) (by omega)
      (by omega), hsum, BitVec.ofNat_toNat, BitVec.setWidth_eq]

/-- A legal group comes back from its temperature type (R173, R208). -/
theorem classify_tempType {var : Variant} {g : Byte} (h : legalTempGroup var g = true) :
    classify var (tempType g) = (.temp, g) := by
  have ht := tempType_toNat g
  rw [Claims.sentTempType] at ht
  have hg : g.toNat ≤ 2 ∧ (var = .ext → g.toNat ≤ 1) := by
    cases var with
    | small => exact ⟨of_decide_eq_true h, nofun⟩
    | ext => exact ⟨(of_decide_eq_true h).trans (by decide), fun _ => of_decide_eq_true h⟩
  rw [classify_temp (g := g.toNat) (by omega) hg.1 hg.2, BitVec.ofNat_toNat, BitVec.setWidth_eq]

/-! ### The mask of a balancing-state frame (R43, R209) -/

theorem append_byte_toNat {n : Nat} (x : BitVec n) (b : Byte) : (x ++ b).toNat = x.toNat * 256 + b.toNat := by
  rw [BitVec.toNat_append, ← Nat.shiftLeft_add_eq_or_of_lt b.isLt, Nat.shiftLeft_eq]

theorem wordOfBytes_eq (a b c d : Byte) : wordOfBytes a b c d =
    BitVec.ofNat 32 (a.toNat * 2 ^ 24 + b.toNat * 2 ^ 16 + c.toNat * 2 ^ 8 + d.toNat) := by
  have := a.isLt
  have := b.isLt
  have := c.isLt
  have := d.isLt
  apply BitVec.eq_of_toNat_eq
  rw [wordOfBytes, append_byte_toNat, append_byte_toNat, append_byte_toNat, BitVec.toNat_ofNat]
  omega

/-- The four bytes are adjacent slices, which join into the whole mask. -/
theorem wordOfBytes_wordBytes (m : Word) :
    wordOfBytes (wordBytes m).1 (wordBytes m).2.1 (wordBytes m).2.2.1 (wordBytes m).2.2.2 = m := by
  simp only [wordOfBytes, wordBytes]
  iterate 3 rw [BitVec.extractLsb'_append_extractLsb'_eq_extractLsb' (by decide)]
  exact BitVec.extractLsb'_eq_self

/-! ### What DECODE_FRAME drives for a valid frame (R200 to R208) -/

/-- The CRC of a valid frame's data bytes is the trailer (R201). -/
theorem crc_of_valid {f : Frame} (h : Claims.ValidFrame f) : f.payload.crc = Claims.plainValue f.b6 f.b7 := h

theorem exec_decodeFrame (s : State) :
    exec .decodeFrame s = s.drive (decodeFrameOutputs s.variant s.inp.idin s.inp.fin) := rfl

/-- A valid per-module frame, from the class of its message type. -/
theorem decodeFrameOutputs_of_classify {var : Variant} {id : Word} {f : Frame} {k : Kind} {g : Byte}
    (hf : f.crcOk = true) (hid : Claims.PerModuleId id) (hc : classify var (typeOfId id) = (k, g)) :
    decodeFrameOutputs var id f = moduleValues k g f { Outputs.zero with
      crc := f.payload.crc, ok := true, fout := f, modout := moduleOfId id, typout := typeOfId id,
      kind := k.code } := by
  obtain ⟨h1, h2, h3⟩ := hid
  rw [decodeFrameOutputs_module hf h1 h2 h3, decodeModuleFrame, hc]

/-- The same for the operation, in the claims' words. -/
theorem exec_decodeFrame_of_classify {s : State} {k : Kind} {g : Byte} (hf : Claims.ValidFrame s.inp.fin)
    (hid : Claims.PerModuleId s.inp.idin) (hc : classify s.variant (typeOfId s.inp.idin) = (k, g)) :
    exec .decodeFrame s =
      .next { s with out := moduleValues k g s.inp.fin (Claims.moduleOutputs s k.code) } := by
  rw [exec_decodeFrame, decodeFrameOutputs_of_classify ((crcOk_iff_valid _).mpr hf) hid hc, crc_of_valid hf,
    moduleOfId_eq, typeOfId_eq]
  rfl

/-- DECODE_FRAME of the identifier and frame that the host copies from the output ports to the input ports. -/
theorem step_offer_decodeFrame (t : State) : step (t.offer (encodeOp .decodeFrame) t.message) =
    .next { t.offer (encodeOp .decodeFrame) t.message with
      out := decodeFrameOutputs t.variant t.out.idout t.out.fout } :=
  (step_eq_exec (decodeOp_encodeOp .decodeFrame)).trans (exec_decodeFrame _)

/-! ### The round trip from the builders (R215, R216) -/

theorem decCV_encCV {v : Half} (h : legalCellVoltage v = true) : decCV (encCV v).1 (encCV v).2 = v :=
  codecRoundTrips.1 v (of_decide_eq_true h)

theorem decT_encT {s : Half} (h : legalTemp s = true) : decT (encT s) = s := by
  obtain ⟨hlo, hhi⟩ : -40 ≤ s.toInt ∧ s.toInt ≤ 215 := by simpa [legalTemp] using h
  exact BitVec.eq_of_toInt_eq (decT_encT_toInt hlo hhi)

/-- The frame of a per-module builder under the identifier it was sent with: the frame is valid, the identifier
is none of the pack's, and its module and type are the sent ones. -/
theorem decodeFrameOutputs_finish {var : Variant} {m t : Byte} {k : Kind} {g : Byte}
    (ht : t.toNat % 16 ≠ 0) (hc : classify var t = (k, g)) (p : Payload) :
    decodeFrameOutputs var (finish (composeId m t) p).idout (finish (composeId m t) p).fout =
      moduleValues k g (p.withTrailer p.crc) { Outputs.zero with
        crc := p.crc, ok := true, fout := p.withTrailer p.crc, modout := m, typout := t, kind := k.code } := by
  have hct : classify var (typeOfId (composeId m t)) = (k, g) := by rwa [typeOfId_composeId]
  have h := decodeFrameOutputs_of_classify p.withTrailer_crcOk (composeId_perModuleId ht m) hct
  rwa [moduleOfId_composeId, typeOfId_composeId] at h

/-- Settles O43: each builder's frame is valid under its own identifier, its type is classified as the builder's
kind and group, and each codec takes back what it encoded. -/
theorem builderDecoderRoundTrip : Obligations.BuilderDecoderRoundTrip := by
  intro s om sealed received
  refine ⟨fun _ => ?_, fun _ hg h0 h1 h2 => ?_, fun _ hg h0 h1 h2 h3 h4 h5 => ?_, fun h1 h2 => ?_, fun h0 => ?_,
    fun h0 h1 h2 => ?_⟩
  · refine ⟨_, exec_bldBal s, _, step_offer_decodeFrame _,
      (decodeFrameOutputs_finish (by decide) (classify_bal s.variant) _).trans ?_⟩
    simp only [moduleValues, balValues, Payload.withTrailer, wordOfBytes_wordBytes]
    rfl
  · refine ⟨_, exec_bldCellv s, _, step_offer_decodeFrame _,
      (decodeFrameOutputs_finish (cellType_low_nibble hg) (classify_cellType hg) _).trans ?_⟩
    simp only [moduleValues, cellvValues, Payload.withTrailer, threeFields, decCV_encCV, h0, h1, h2]
    rfl
  · refine ⟨_, exec_bldTemp s, _, step_offer_decodeFrame _,
      (decodeFrameOutputs_finish (tempType_low_nibble hg) (classify_tempType hg) _).trans ?_⟩
    simp only [moduleValues, tempValues, Payload.withTrailer, decT_encT, h0, h1, h2, h3, h4, h5]
    rfl
  · refine ⟨_, exec_bldPack1 s, _, step_offer_decodeFrame _,
      (decodeFrameOutputs_pack1 (Payload.withTrailer_crcOk _) _).trans ?_⟩
    simp only [pack1Values, Payload.withTrailer, threeFields, decU16_encU16, decCV_encCV, h1, h2]
    rfl
  · refine ⟨_, exec_bldPack2 s, _, step_offer_decodeFrame _,
      (decodeFrameOutputs_pack2 (Payload.withTrailer_crcOk _) _).trans ?_⟩
    simp only [pack2Values, Payload.withTrailer, threeFields, decU16_encU16, decCV_encCV, h0]
    rfl
  · refine ⟨_, exec_bldPack3 s, _, step_offer_decodeFrame _,
      (decodeFrameOutputs_pack3 (Payload.withTrailer_crcOk _) _).trans ?_⟩
    simp only [pack3Values, Payload.withTrailer, decT_encT, h0, h1, h2]
    rfl

/-- DECODE_FRAME of a balancing-state frame reports the module number that BLD_BAL sent, whatever `mod` was. -/
theorem bldBal_modout (s : State) : ∃ t u : State, exec .bldBal s = .next t ∧
    step (t.offer (encodeOp .decodeFrame) t.message) = .next u ∧ u.out.modout = offsetModule s.variant s.inp.mod :=
  ⟨_, _, exec_bldBal s, step_offer_decodeFrame _,
    congrArg Outputs.modout (decodeFrameOutputs_finish (by decide) (classify_bal s.variant) _)⟩

/-- Settles O44: the values of a kind leave the identifier's module field as it was decoded, and the composer's
module number comes back from the identifier. -/
theorem moduleOffsetIsNotUndone : Obligations.ModuleOffsetIsNotUndone := by
  refine ⟨fun s hf hid => ?_, fun s hext => ?_⟩
  · obtain ⟨k, g, hc⟩ : ∃ k g, classify s.variant (typeOfId s.inp.idin) = (k, g) := ⟨_, _, rfl⟩
    obtain ⟨-, -, hmod, -⟩ := moduleValues_keeps k g s.inp.fin (Claims.moduleOutputs s k.code)
    exact ⟨_, exec_decodeFrame_of_classify hf hid hc, hmod.trans (moduleOfId_eq _).symm⟩
  · obtain ⟨t, u, ht, hu, hmod⟩ := bldBal_modout s
    refine ⟨t, u, ht, hu, ?_⟩
    rw [hmod, offsetModule_toNat, hext]
    rfl

/-! ### Each class of frame (R202 to R214) -/

/-- Settles O34: the CRC gate comes before the identifier is looked at. -/
theorem invalidFrameDecodesNothing : Obligations.InvalidFrameDecodesNothing :=
  fun _ hf => exec_decodeFrame_invalid (Bool.eq_false_iff.mpr fun h => hf ((crcOk_iff_valid _).mp h))

/-- Settles O35: one branch of R203 for each fixed identifier. -/
theorem packFramesDecode : Obligations.PackFramesDecode := by
  intro s hf f base
  have hok : s.inp.fin.crcOk = true := (crcOk_iff_valid _).mpr hf
  refine ⟨fun (hid : s.inp.idin = pack1Id) => ?_, fun (hid : s.inp.idin = pack2Id) => ?_,
    fun (hid : s.inp.idin = pack3Id) => ?_⟩
  · rw [exec_decodeFrame, hid, decodeFrameOutputs_pack1 hok]
    simp only [pack1Values, decU16_eq, decCV_eq, crc_of_valid hf]
    rfl
  · rw [exec_decodeFrame, hid, decodeFrameOutputs_pack2 hok]
    simp only [pack2Values, decU16_eq, decCV_eq, crc_of_valid hf]
    rfl
  · rw [exec_decodeFrame, hid, decodeFrameOutputs_pack3 hok]
    simp only [pack3Values, decT_eq, crc_of_valid hf]
    rfl

/-- Settles O36: type 0x01 in both variants, and the mask's bytes as one number. -/
theorem balancingFramesDecode : Obligations.BalancingFramesDecode := by
  intro s hf hid ht
  rw [← typeOfId_eq] at ht
  rw [exec_decodeFrame_of_classify hf hid (ht ▸ classify_bal s.variant), ← wordOfBytes_eq]
  rfl

/-- Settles O37: the cell-voltage types of each variant, then three cell-voltage fields. -/
theorem cellVoltageFramesDecode : Obligations.CellVoltageFramesDecode := by
  intro s lo hi hf hid ht hlo hlo' hvar
  rw [← typeOfId_toNat] at ht
  have hc : classify s.variant (typeOfId s.inp.idin) = (.cellv, BitVec.ofNat 8 (hi * 12 + lo - 2)) := by
    cases hv : s.variant with
    | small =>
      rw [hv] at hvar
      obtain ⟨rfl, hlo9⟩ := hvar
      rw [classify_small_cellv (g := lo - 2) (by omega) (by omega), Nat.zero_mul, Nat.zero_add]
    | ext =>
      rw [hv] at hvar
      exact classify_ext_cellv ht hlo hlo' hvar
  rw [exec_decodeFrame_of_classify hf hid hc]
  simp only [moduleValues, cellvValues, decCV_eq]
  rfl

/-- Settles O38: the temperature types of each variant, then six temperature bytes. -/
theorem temperatureFramesDecode : Obligations.TemperatureFramesDecode := by
  intro s g hf hid ht hg hext
  rw [← typeOfId_toNat] at ht
  rw [exec_decodeFrame_of_classify hf hid (classify_temp ht hg hext)]
  simp only [moduleValues, tempValues, decT_eq]
  rfl

/-- Settles O39: type 0x0D in EXT, a kind without values. -/
theorem ambiguousFramePassesThrough : Obligations.AmbiguousFramePassesThrough := by
  intro s hf hid hext ht
  rw [← typeOfId_eq] at ht
  have hc : classify s.variant (typeOfId s.inp.idin) = (.ambig, 0) := by rw [hext, ht, classify_ext_ambig]
  exact exec_decodeFrame_of_classify hf hid hc

/-- Settles O40: the types that no row of R69 names, a kind without values. -/
theorem unknownTypePassesThrough : Obligations.UnknownTypePassesThrough := by
  intro s t hf hid ht hvar
  rw [← typeOfId_toNat] at ht
  subst ht
  have hc : classify s.variant (typeOfId s.inp.idin) = (.unknown, 0) := by
    cases hv : s.variant with
    | small =>
      rw [hv] at hvar
      exact classify_small_unknown hvar
    | ext =>
      rw [hv] at hvar
      exact classify_ext_unknown hvar
  exact exec_decodeFrame_of_classify hf hid hc

/-- Settles O41: the outputs of both kinds are built from the identifier, the copied frame, its CRC and the bytes
that are no padding. -/
theorem paddingIsNotChecked : Obligations.PaddingIsNotChecked := by
  intro s t hs ht _ hid h
  obtain ⟨hper, htyp, h2, h3, h4, h5⟩ | ⟨hpack, h0, h1, h2⟩ := h
  · refine ⟨_, _, balancingFramesDecode s hs hper htyp, balancingFramesDecode t ht (hid ▸ hper) (hid ▸ htyp), ?_⟩
    simp only [Claims.moduleOutputs, hid, h2, h3, h4, h5]
  · obtain ⟨-, -, hu⟩ := packFramesDecode s hs
    obtain ⟨-, -, hw⟩ := packFramesDecode t ht
    refine ⟨_, _, hu hpack, hw (hid ▸ hpack), ?_⟩
    simp only [h0, h1, h2]

end Sys2Proof.Machine

/-! SUPPORT. The control operations (spec/45_control.md): NOP and the reserved op codes, each of which drives fixed
outputs whatever the input ports hold. -/

namespace Sys2Proof.Machine

theorem exec_nop (s : State) : exec .nop s = s.drive Outputs.zero := rfl

/-- All reserved op codes behave the same (R231). -/
theorem exec_reserved {i : Instr} (hi : i.reserved = true) (s : State) : exec i s = s.drive badOpOutputs := by
  cases i with
  | reserved0C | reserved0D | reserved0E | reserved0F | reserved16 | reserved17 | reserved19
  | reserved1A | reserved1B | reserved1C | reserved1D | reserved1E | reserved1F => rfl
  | nop | crcGen | crcCheck | encCellv | decCellv | encU16 | decU16 | encTemp | decTemp | makeId
  | decMod | decType | bldBal | bldCellv | bldTemp | bldPack1 | bldPack2 | bldPack3 | decodeFrame =>
    cases hi

/-- Settles O5: driving the zero outputs changes nothing but the outputs. -/
theorem nopDrivesAllZero : Obligations.NopDrivesAllZero :=
  fun s => (exec_nop s).trans (s.drive_eq Outputs.zero)

/-- Settles O6: the 13 listed operations are reserved, and a reserved operation drives `badOpOutputs`. -/
theorem reservedCodesDriveBadOp : Obligations.ReservedCodesDriveBadOp := by
  intro i s hi
  have hres : i.reserved = true := by
    revert i
    decide
  exact (exec_reserved hres s).trans (s.drive_eq badOpOutputs)

end Sys2Proof.Machine

/-! SUPPORT. Errors without exceptions (spec/60_exceptions.md): a step always answers, and the order in which the
conditions of R244 win over each other. -/

namespace Sys2Proof.Machine

/-- Settles O7: every step is one evaluation of the transfer function. -/
theorem noStepStops : Obligations.NoStepStops :=
  fun s => ⟨_, step_eq_transfer s⟩

/-! ### The four priorities of R244 -/

/-- A step whose op code is reserved drives `badOpOutputs`, whatever the inputs. -/
theorem step_reserved {s : State} (h : (decodeOp s.op).reserved = true) :
    step s = .next { s with out := badOpOutputs } :=
  (step_eq_exec rfl).trans (exec_reserved h s)

/-- What DECODE_FRAME drives for an invalid frame does not mention the identifier. -/
theorem exec_decodeFrame_invalid_out {s u : State} (id : Word) (hf : s.inp.fin.crcOk = false)
    (hu : exec .decodeFrame { s with inp := { s.inp with idin := id } } = .next u) :
    u.out = { Outputs.zero with crc := s.inp.fin.payload.crc } := by
  obtain rfl := Host.Outcome.next.inj (hu.symm.trans (exec_decodeFrame_invalid hf))
  rfl

/-- The identifiers outside the per-module scheme are the three fixed ones (R203). -/
theorem not_perModuleId_iff (id : Word) :
    ¬ Claims.PerModuleId id ↔ id = 0x8000#32 ∨ id = 0x8010#32 ∨ id = 0x8020#32 := by
  unfold Claims.PerModuleId
  tauto

/-- Settles O42: an invalid frame's outputs do not mention the identifier; a valid frame takes the branch of its
fixed identifier, and any other identifier takes its kind from the message type's class. -/
theorem decoderPriorities : Obligations.DecoderPriorities := by
  refine ⟨fun op s => step_reserved (s := { s with op := op }), fun s id id' u w hf hu hw => ?_,
    fun s hf hid => ?_, fun s hf hid => ?_⟩
  · have hbad : s.inp.fin.crcOk = false := Bool.eq_false_iff.mpr fun h => hf ((crcOk_iff_valid _).mp h)
    rw [exec_decodeFrame_invalid_out id hbad hu, exec_decodeFrame_invalid_out id' hbad hw]
    exact ⟨rfl, rfl, rfl⟩
  · obtain ⟨h1, h2, h3⟩ := packFramesDecode s hf
    obtain hid | hid | hid := (not_perModuleId_iff _).mp hid <;> rw [hid]
    · exact ⟨_, h1 hid, rfl, (by decide : 4 ≤ 4), (by decide : 4 ≤ 6), rfl, rfl, rfl, by decide⟩
    · exact ⟨_, h2 hid, rfl, (by decide : 4 ≤ 5), (by decide : 5 ≤ 6), rfl, rfl, rfl, by decide⟩
    · exact ⟨_, h3 hid, rfl, (by decide : 4 ≤ 6), (by decide : 6 ≤ 6), rfl, rfl, rfl, by decide⟩
  · obtain ⟨k, g, hc⟩ : ∃ k g, classify s.variant (typeOfId s.inp.idin) = (k, g) := ⟨_, _, rfl⟩
    obtain ⟨hok, hkind, hmod, htyp, -⟩ := moduleValues_keeps k g s.inp.fin (Claims.moduleOutputs s k.code)
    rw [hc]
    exact ⟨_, exec_decodeFrame_of_classify hf hid hc, hok, hkind, hmod.trans (moduleOfId_eq _).symm,
      htyp.trans (typeOfId_eq _).symm⟩

end Sys2Proof.Machine

/-! SUPPORT. Reset and the clocked CORE (spec/70_reset_and_hazards.md): what the state after reset shows, and how
presentations, clocks and a reset move the count of stable clocks that decides what the outputs are. -/

namespace Sys2Proof.Machine

/-! ### Reset (R262) -/

theorem exec_nop_eq_afterReset (s : State) : exec .nop s = .next s.afterReset :=
  (exec_nop s).trans (s.drive_eq Outputs.zero)

/-- Settles O52: the reset state is what NOP leaves of it, and every operation leads to a sound state. -/
theorem resetIsSound : Obligations.ResetIsSound :=
  exec_sound (exec_nop_eq_afterReset State.reset)

/-- Settles O53: NOP drives the zeros of reset, and nothing else. -/
theorem resetShowsNopOutputs : Obligations.ResetShowsNopOutputs :=
  ⟨rfl, fun s => ⟨rfl, rfl, exec_nop_eq_afterReset s⟩⟩

/-! ### Presentations and the reset of a clocked CORE (R262, R263, R265) -/

/-- Presenting the values already on the ports changes nothing. -/
theorem Clocked.present_self (c : Clocked) : c.present c.inputs = c := if_pos rfl

/-- Changing an input starts the evaluation again. -/
theorem Clocked.present_of_ne {c : Clocked} {e : Evaluation} (h : e ≠ c.inputs) :
    c.present e = { c with inputs := e, stable := 0, seed := c.seed + 1 } := if_neg h

@[simp] theorem Clocked.present_variant (c : Clocked) (e : Evaluation) : (c.present e).variant = c.variant := by
  by_cases h : e = c.inputs
  · rw [h, present_self]
  · rw [present_of_ne h]

@[simp] theorem Clocked.present_inputs (c : Clocked) (e : Evaluation) : (c.present e).inputs = e := by
  by_cases h : e = c.inputs
  · rw [h, present_self]
  · rw [present_of_ne h]

@[simp] theorem Clocked.reset_variant (c : Clocked) : c.reset.variant = c.variant := rfl
@[simp] theorem Clocked.reset_inputs (c : Clocked) : c.reset.inputs = c.inputs := rfl
@[simp] theorem Clocked.reset_stable (c : Clocked) : c.reset.stable = 0 := rfl

/-! ### Clocks with the inputs held (R269) -/

@[simp] theorem Clocked.ticks_variant (latency n : Nat) (c : Clocked) :
    (c.ticks latency n).variant = c.variant := by
  induction n generalizing c with
  | zero => rfl
  | succ n ih => exact ih (c.tick latency)

@[simp] theorem Clocked.ticks_inputs (latency n : Nat) (c : Clocked) :
    (c.ticks latency n).inputs = c.inputs := by
  induction n generalizing c with
  | zero => rfl
  | succ n ih => exact ih (c.tick latency)

@[simp] theorem Clocked.tick_stable (latency : Nat) (c : Clocked) :
    (c.tick latency).stable = c.stable + 1 := rfl

@[simp] theorem Clocked.ticks_stable (latency n : Nat) (c : Clocked) :
    (c.ticks latency n).stable = c.stable + n := by
  induction n generalizing c with
  | zero => rfl
  | succ n ih =>
    rw [ticks, ih, tick_stable]
    omega

/-- A clock that is not the LATENCY-th stable one completes no evaluation. -/
theorem Clocked.tick_sinceReset {latency : Nat} {c : Clocked} (h : c.stable + 1 < latency) :
    (c.tick latency).sinceReset = c.sinceReset := by
  simp only [tick, h, decide_true, Bool.and_true]

/-- While the inputs have been stable for fewer than LATENCY clocks, no evaluation completes (R262, R269). -/
theorem Clocked.ticks_sinceReset {latency n : Nat} {c : Clocked} (h : c.stable + n < latency) :
    (c.ticks latency n).sinceReset = c.sinceReset := by
  induction n generalizing c with
  | zero => rfl
  | succ n ih =>
    have hrest : (c.tick latency).stable + n < latency := by
      rw [tick_stable]
      omega
    rw [ticks, ih hrest, tick_sinceReset (by omega)]

/-! ### What the outputs show (R261, R262, R265) -/

theorem Clocked.outputs_of_le {latency : Nat} {c : Clocked} (h : latency ≤ c.stable) :
    c.outputs latency = transfer c.variant c.inputs := if_pos h

theorem Clocked.outputs_of_lt {latency : Nat} {c : Clocked} (h : c.stable < latency)
    (hreset : c.sinceReset = true) : c.outputs latency = Outputs.zero := by
  rw [outputs, if_neg (Nat.not_le.mpr h), if_pos hreset]

/-- Held for LATENCY clocks, the inputs show the transfer function, whatever came before. -/
theorem Clocked.outputs_ticks_of_le {latency n : Nat} {c : Clocked} (h : latency ≤ c.stable + n) :
    (c.ticks latency n).outputs latency = transfer c.variant c.inputs := by
  rw [outputs_of_le (by rwa [ticks_stable]), ticks_variant, ticks_inputs]

/-- After reset the outputs are 0 as long as the inputs have been stable for fewer than LATENCY clocks. -/
theorem Clocked.outputs_ticks_of_lt {latency n : Nat} {c : Clocked} (h : c.stable + n < latency)
    (hreset : c.sinceReset = true) : (c.ticks latency n).outputs latency = Outputs.zero :=
  outputs_of_lt (by rwa [ticks_stable]) ((ticks_sinceReset h).trans hreset)

/-- After reset and before the first evaluation completes, a presentation of the values already on the ports keeps
the count of stable clocks, and a presentation of other values starts it at 0. -/
theorem Clocked.outputs_ticks_present {latency m : Nat} {c : Clocked} (hreset : c.sinceReset = true)
    (hm : m < latency) (e : Evaluation) : ((c.present e).ticks latency m).outputs latency =
      if e = c.inputs ∧ latency ≤ c.stable + m then transfer c.variant e else Outputs.zero := by
  by_cases he : e = c.inputs
  · rw [he, present_self]
    by_cases hle : latency ≤ c.stable + m
    · rw [if_pos ⟨rfl, hle⟩, outputs_ticks_of_le hle]
    · rw [if_neg fun h => hle h.2, outputs_ticks_of_lt (Nat.not_le.mp hle) hreset]
  · have hstart : (c.present e).stable + m < latency := by simpa [present_of_ne he] using hm
    rw [if_neg fun h => he h.1, outputs_ticks_of_lt hstart (by rw [present_of_ne he, hreset])]

/-- Settles O56: LATENCY 0 is reached by any count of stable clocks. -/
theorem combinationalOutputsFollowInputs : Obligations.CombinationalOutputsFollowInputs := fun c e =>
  ⟨c.outputs_of_le (Nat.zero_le _),
    by rw [Clocked.outputs_of_le (Nat.zero_le _), Clocked.present_variant, Clocked.present_inputs],
    Clocked.outputs_of_le (Nat.zero_le _)⟩

/-- Settles O54: both sides are the transfer function of the presented evaluation. -/
theorem stableInputsSettle : Obligations.StableInputsSettle := by
  intro latency n c e t hn ht
  have hout : t.out = transfer c.variant e :=
    congrArg State.out (Host.Outcome.next.inj (ht.symm.trans (step_present _ e)))
  rw [Clocked.outputs_ticks_of_le (hn.trans (Nat.le_add_left n _)), Clocked.present_variant,
    Clocked.present_inputs, hout]

/-- Settles O55: `n` clocks after reset no evaluation has completed and the count of stable clocks is `n`, which a
presentation of the held inputs keeps. -/
theorem zerosUntilFirstEvaluation : Obligations.ZerosUntilFirstEvaluation := by
  intro latency n c e hn
  have hlt : c.reset.stable + n < latency := by rwa [Clocked.reset_stable, Nat.zero_add]
  have hreset : (c.reset.ticks latency n).sinceReset = true := Clocked.ticks_sinceReset hlt
  refine ⟨Clocked.outputs_ticks_of_lt hlt rfl, fun m hm => ?_⟩
  simpa using Clocked.outputs_ticks_present hreset hm e

end Sys2Proof.Machine
